-- ==== Sys2Proof/Word.lean ====
section
/-! DEFINITION. The byte, the only word of the block (00_scope.md R6), and its plainest arithmetic. -/

namespace Sys2Proof

/-- R6: "A byte is 8 bits, an unsigned value 0..255." Every code, data byte, payload byte, length byte and checksum
byte is one byte. -/
abbrev Byte := BitVec 8

/-- The byte with value `n mod 256`. -/
def byte (n : Nat) : Byte := BitVec.ofNat 8 n

end Sys2Proof
end

