-- ==== Sys2Proof/Config.lean ====
section
/-! DEFINITION. What an instance of the block is given and never changes: the parameters of 00_scope.md R8 and the
types of the two catalogs (10_state.md R23 to R25). The default tables stand in Machine/CommandCatalog.lean and
Machine/PacketCatalog.lean. -/

namespace Sys2Proof

/-- R24: the length rule of a command. -/
inductive LengthRule where
  /-- `Fixed(k)`: exactly k data bytes. -/
  | fixed (k : Nat)
  /-- `Prefixed(off, base, per)`: `base + per * buffer[off]` data bytes (30_encoding.md R73). -/
  | prefixed (off base per : Nat)
deriving DecidableEq, Repr

/-- R24: one declared field, `(byteOffset, byteWidth, signed, min, max, sentinels[])`. Offsets count from the opcode,
which is at index 0. -/
structure Field where
  byteOffset : Nat
  byteWidth : Nat
  signed : Bool
  min : Int
  max : Int
  sentinels : List Int
deriving DecidableEq, Repr

/-- R24: what the Command Catalog holds for one opcode. The mnemonic is for documentation only. -/
structure CommandSpec where
  mnemonic : String
  length : LengthRule
  fields : List Field
deriving DecidableEq, Repr

/-- R8, R141: which field domains the catalog declares. -/
inductive DomainProfile where
  | source
  | extended
deriving DecidableEq, Repr

/-- One entry of `CMD_CATALOG` (R8): an opcode, its length rule, and the fields it declares under either profile (R141; log 6). -/
structure CommandEntry where
  opcode : Byte
  mnemonic : String
  length : LengthRule
  sourceFields : List Field
  extendedFields : List Field
deriving DecidableEq, Repr

/-- R25: what the Packet Catalog holds for one packet ID. The name is a label only (92 D13). -/
inductive PacketSpec where
  | leaf (name : String) (byteWidth : Nat) (signed : Bool)
  | group (members : List Byte)
deriving DecidableEq, Repr

/-- One entry of `PKT_CATALOG` (R8). -/
structure PacketEntry where
  id : Byte
  spec : PacketSpec
deriving DecidableEq, Repr

/-- R8, 44_stream_decoder.md R311: how the stream demultiplexer treats a group ID in a payload. -/
inductive StreamGroupPolicy where
  | leafOnly
  | expandGroups
deriving DecidableEq, Repr

/-- R8: the parameters of the block, fixed when it is instantiated (10_state.md R23, 92 D27). -/
structure Config where
  knownOpcodes : List Byte
  cmdCatalog : List CommandEntry
  domainProfile : DomainProfile
  pktCatalog : List PacketEntry
  signedEncoderCounts : Bool
  streamGroupPolicy : StreamGroupPolicy
deriving DecidableEq, Repr

end Sys2Proof
end

