-- ==== Sys2Proof/Syntax.lean ====
section
/-! DEFINITION. The instructions of the block: one constructor per row of opcode_table.json. An instruction is a host
transaction (30_encoding.md R82): the 39 command rows are VALIDATE of a buffer with that opcode, the 63 packet rows
are DECODE of that ID (log 4). -/

namespace Sys2Proof

/-- R301: one event of the byte source. -/
inductive SourceEvent where
  | byte (b : Byte)
  | ioError
  | endOfStream
deriving DecidableEq, Repr

/-- The transactions. `data` are the bytes of the command buffer after the opcode, of any number (R160, D21); `buf` is the
response buffer, of any length (R280). -/
inductive Instr where
  /-- R160: VALIDATE of any buffer. The decoder gives it when byte 0 has no command row, or there is no byte 0. -/
  | validate (buf : List Byte)
  /-- R280: DECODE of any ID. The decoder gives it when the ID has no packet row. -/
  | decode (id : Byte) (buf : List Byte)
  /-- R300. -/
  | streamStep (ev : SourceEvent)
  /-- R312. -/
  | streamReset
  /-- R101, opcode 7. -/
  | reset (data : List Byte)
  /-- R102, opcode 128. -/
  | start (data : List Byte)
  /-- R103, opcode 129. -/
  | baud (data : List Byte)
  /-- R104, opcode 130. -/
  | control (data : List Byte)
  /-- R105, opcode 131. -/
  | safe (data : List Byte)
  /-- R106, opcode 132. -/
  | full (data : List Byte)
  /-- R107, opcode 133. -/
  | power (data : List Byte)
  /-- R108, opcode 134. -/
  | spot (data : List Byte)
  /-- R109, opcode 135. -/
  | clean (data : List Byte)
  /-- R110, opcode 136. -/
  | max (data : List Byte)
  /-- R111, opcode 137. -/
  | drive (data : List Byte)
  /-- R112, opcode 138. -/
  | motors (data : List Byte)
  /-- R113, opcode 139. -/
  | leds (data : List Byte)
  /-- R114, opcode 140. -/
  | song (data : List Byte)
  /-- R115, opcode 141. -/
  | play (data : List Byte)
  /-- R116, opcode 142. -/
  | sensors (data : List Byte)
  /-- R117, opcode 143. -/
  | seekDock (data : List Byte)
  /-- R118, opcode 144. -/
  | pwmMotors (data : List Byte)
  /-- R119, opcode 145. -/
  | driveDirect (data : List Byte)
  /-- R120, opcode 146. -/
  | drivePwm (data : List Byte)
  /-- R121, opcode 147. -/
  | digitalOutputs (data : List Byte)
  /-- R122, opcode 148. -/
  | stream (data : List Byte)
  /-- R123, opcode 149. -/
  | queryList (data : List Byte)
  /-- R124, opcode 150. -/
  | pauseResumeStream (data : List Byte)
  /-- R125, opcode 151. -/
  | sendIr (data : List Byte)
  /-- R126, opcode 152. -/
  | script (data : List Byte)
  /-- R127, opcode 153. -/
  | playScript (data : List Byte)
  /-- R128, opcode 154. -/
  | showScript (data : List Byte)
  /-- R129, opcode 155. -/
  | waitTime (data : List Byte)
  /-- R130, opcode 156. -/
  | waitDistance (data : List Byte)
  /-- R131, opcode 157. -/
  | waitAngle (data : List Byte)
  /-- R132, opcode 158. -/
  | waitEvent (data : List Byte)
  /-- R133, opcode 162. -/
  | schedulingLeds (data : List Byte)
  /-- R134, opcode 163. -/
  | digitLedsRaw (data : List Byte)
  /-- R135, opcode 164. -/
  | digitLedsAscii (data : List Byte)
  /-- R136, opcode 165. -/
  | buttons (data : List Byte)
  /-- R137, opcode 167. -/
  | schedule (data : List Byte)
  /-- R138, opcode 168. -/
  | setDayTime (data : List Byte)
  /-- R139, opcode 173. -/
  | stop (data : List Byte)
  /-- R202, packet 7. -/
  | pktBumpsWheelDrops (buf : List Byte)
  /-- R203, packet 8. -/
  | pktWall (buf : List Byte)
  /-- R204, packet 9. -/
  | pktCliffLeft (buf : List Byte)
  /-- R205, packet 10. -/
  | pktCliffFrontLeft (buf : List Byte)
  /-- R206, packet 11. -/
  | pktCliffFrontRight (buf : List Byte)
  /-- R207, packet 12. -/
  | pktCliffRight (buf : List Byte)
  /-- R208, packet 13. -/
  | pktVirtualWall (buf : List Byte)
  /-- R209, packet 14. -/
  | pktWheelOvercurrents (buf : List Byte)
  /-- R210, packet 15. -/
  | pktDirtDetect (buf : List Byte)
  /-- R211, packet 16. -/
  | pktUnused16 (buf : List Byte)
  /-- R212, packet 17. -/
  | pktIrOpcodeOmni (buf : List Byte)
  /-- R213, packet 18. -/
  | pktButtons (buf : List Byte)
  /-- R214, packet 19. -/
  | pktDistance (buf : List Byte)
  /-- R215, packet 20. -/
  | pktAngle (buf : List Byte)
  /-- R216, packet 21. -/
  | pktChargingState (buf : List Byte)
  /-- R217, packet 22. -/
  | pktVoltage (buf : List Byte)
  /-- R218, packet 23. -/
  | pktCurrent (buf : List Byte)
  /-- R219, packet 24. -/
  | pktTemperature (buf : List Byte)
  /-- R220, packet 25. -/
  | pktBatteryCharge (buf : List Byte)
  /-- R221, packet 26. -/
  | pktBatteryCapacity (buf : List Byte)
  /-- R222, packet 27. -/
  | pktWallSignal (buf : List Byte)
  /-- R223, packet 28. -/
  | pktCliffLeftSignal (buf : List Byte)
  /-- R224, packet 29. -/
  | pktCliffFrontLeftSignal (buf : List Byte)
  /-- R225, packet 30. -/
  | pktCliffFrontRightSignal (buf : List Byte)
  /-- R226, packet 31. -/
  | pktCliffRightSignal (buf : List Byte)
  /-- R227, packet 32. -/
  | pktUnused32 (buf : List Byte)
  /-- R228, packet 33. -/
  | pktUnused33 (buf : List Byte)
  /-- R229, packet 34. -/
  | pktChargingSourcesAvailable (buf : List Byte)
  /-- R230, packet 35. -/
  | pktOiMode (buf : List Byte)
  /-- R231, packet 36. -/
  | pktSongNumber (buf : List Byte)
  /-- R232, packet 37. -/
  | pktSongPlaying (buf : List Byte)
  /-- R233, packet 38. -/
  | pktNumberOfStreamPackets (buf : List Byte)
  /-- R234, packet 39. -/
  | pktRequestedVelocity (buf : List Byte)
  /-- R235, packet 40. -/
  | pktRequestedRadius (buf : List Byte)
  /-- R236, packet 41. -/
  | pktRequestedRightVelocity (buf : List Byte)
  /-- R237, packet 42. -/
  | pktRequestedLeftVelocity (buf : List Byte)
  /-- R238, packet 43. -/
  | pktLeftEncoderCounts (buf : List Byte)
  /-- R239, packet 44. -/
  | pktRightEncoderCounts (buf : List Byte)
  /-- R240, packet 45. -/
  | pktLightBumper (buf : List Byte)
  /-- R241, packet 46. -/
  | pktLightBumpLeftSignal (buf : List Byte)
  /-- R242, packet 47. -/
  | pktLightBumpFrontLeftSignal (buf : List Byte)
  /-- R243, packet 48. -/
  | pktLightBumpCenterLeftSignal (buf : List Byte)
  /-- R244, packet 49. -/
  | pktLightBumpCenterRightSignal (buf : List Byte)
  /-- R245, packet 50. -/
  | pktLightBumpFrontRightSignal (buf : List Byte)
  /-- R246, packet 51. -/
  | pktLightBumpRightSignal (buf : List Byte)
  /-- R247, packet 52. -/
  | pktIrOpcodeLeft (buf : List Byte)
  /-- R248, packet 53. -/
  | pktIrOpcodeRight (buf : List Byte)
  /-- R249, packet 54. -/
  | pktLeftMotorCurrent (buf : List Byte)
  /-- R250, packet 55. -/
  | pktRightMotorCurrent (buf : List Byte)
  /-- R251, packet 56. -/
  | pktMainBrushMotorCurrent (buf : List Byte)
  /-- R252, packet 57. -/
  | pktSideBrushMotorCurrent (buf : List Byte)
  /-- R253, packet 58. -/
  | pktStasis (buf : List Byte)
  /-- R254, packet 0. -/
  | pktGroup0 (buf : List Byte)
  /-- R255, packet 1. -/
  | pktGroup1 (buf : List Byte)
  /-- R256, packet 2. -/
  | pktGroup2 (buf : List Byte)
  /-- R257, packet 3. -/
  | pktGroup3 (buf : List Byte)
  /-- R258, packet 4. -/
  | pktGroup4 (buf : List Byte)
  /-- R259, packet 5. -/
  | pktGroup5 (buf : List Byte)
  /-- R260, packet 6. -/
  | pktGroup6 (buf : List Byte)
  /-- R261, packet 100. -/
  | pktGroup100 (buf : List Byte)
  /-- R262, packet 101. -/
  | pktGroup101 (buf : List Byte)
  /-- R263, packet 106. -/
  | pktGroup106 (buf : List Byte)
  /-- R264, packet 107. -/
  | pktGroup107 (buf : List Byte)
deriving DecidableEq, Repr

/-- Why the bytes at the transaction port spell no transaction (30_encoding.md R82). -/
inductive PortError where
  /-- No byte at all. -/
  | emptyWord
  /-- The first byte is no selector: "No other selector value exists." -/
  | noSuchSelector (selector : Byte)
  /-- DECODE without its packet ID. -/
  | packetIdMissing
  /-- STREAM_STEP whose operands spell no source event. -/
  | notAnEvent
  /-- STREAM_RESET takes no operands. -/
  | operandsAfterReset
deriving DecidableEq, Repr

end Sys2Proof
end

