-- ==== Sys2Proof/WellFormed.lean ====
section
/-! DEFINITION. When an instruction is in the one form the decoder gives it. A transaction whose opcode or packet ID has
a row is that row's constructor; the generic constructors are for the rest (log 4). -/

namespace Sys2Proof

/-- The opcodes that have a row of their own (R77). -/
def commandOpcodes : List Byte :=
  [7#8, 128#8, 129#8, 130#8, 131#8, 132#8, 133#8, 134#8, 135#8, 136#8, 137#8, 138#8, 139#8, 140#8, 141#8, 142#8,
   143#8, 144#8, 145#8, 146#8, 147#8, 148#8, 149#8, 150#8, 151#8, 152#8, 153#8, 154#8, 155#8, 156#8, 157#8, 158#8,
   162#8, 163#8, 164#8, 165#8, 167#8, 168#8, 173#8]

/-- The packet IDs that have a row of their own (R79). -/
def packetIds : List Byte :=
  [7#8, 8#8, 9#8, 10#8, 11#8, 12#8, 13#8, 14#8, 15#8, 16#8, 17#8, 18#8, 19#8, 20#8, 21#8, 22#8, 23#8, 24#8, 25#8,
   26#8, 27#8, 28#8, 29#8, 30#8, 31#8, 32#8, 33#8, 34#8, 35#8, 36#8, 37#8, 38#8, 39#8, 40#8, 41#8, 42#8, 43#8, 44#8,
   45#8, 46#8, 47#8, 48#8, 49#8, 50#8, 51#8, 52#8, 53#8, 54#8, 55#8, 56#8, 57#8, 58#8, 0#8, 1#8, 2#8, 3#8, 4#8, 5#8,
   6#8, 100#8, 101#8, 106#8, 107#8]

/-- A VALIDATE buffer whose byte 0 has a command row. -/
def namesCommandRow : List Byte → Bool
  | [] => false
  | op :: _ => commandOpcodes.contains op

/-- `VALIDATE buf` is in form when `buf` names no command row; `DECODE id` when `id` has no packet row; every other
constructor always. -/
def Instr.wellFormed : Instr → Bool
  | .validate buf => !namesCommandRow buf
  | .decode id _ => !packetIds.contains id
  | .streamStep _ | .streamReset | .reset _ | .start _ | .baud _ | .control _ | .safe _ | .full _ | .power _
  | .spot _ | .clean _ | .max _ | .drive _ | .motors _ | .leds _ | .song _ | .play _ | .sensors _ | .seekDock _
  | .pwmMotors _ | .driveDirect _ | .drivePwm _ | .digitalOutputs _ | .stream _ | .queryList _
  | .pauseResumeStream _ | .sendIr _ | .script _ | .playScript _ | .showScript _ | .waitTime _ | .waitDistance _
  | .waitAngle _ | .waitEvent _ | .schedulingLeds _ | .digitLedsRaw _ | .digitLedsAscii _ | .buttons _
  | .schedule _ | .setDayTime _ | .stop _ | .pktBumpsWheelDrops _ | .pktWall _ | .pktCliffLeft _
  | .pktCliffFrontLeft _ | .pktCliffFrontRight _ | .pktCliffRight _ | .pktVirtualWall _ | .pktWheelOvercurrents _
  | .pktDirtDetect _ | .pktUnused16 _ | .pktIrOpcodeOmni _ | .pktButtons _ | .pktDistance _ | .pktAngle _
  | .pktChargingState _ | .pktVoltage _ | .pktCurrent _ | .pktTemperature _ | .pktBatteryCharge _
  | .pktBatteryCapacity _ | .pktWallSignal _ | .pktCliffLeftSignal _ | .pktCliffFrontLeftSignal _
  | .pktCliffFrontRightSignal _ | .pktCliffRightSignal _ | .pktUnused32 _ | .pktUnused33 _
  | .pktChargingSourcesAvailable _ | .pktOiMode _ | .pktSongNumber _ | .pktSongPlaying _
  | .pktNumberOfStreamPackets _ | .pktRequestedVelocity _ | .pktRequestedRadius _ | .pktRequestedRightVelocity _
  | .pktRequestedLeftVelocity _ | .pktLeftEncoderCounts _ | .pktRightEncoderCounts _ | .pktLightBumper _
  | .pktLightBumpLeftSignal _ | .pktLightBumpFrontLeftSignal _ | .pktLightBumpCenterLeftSignal _
  | .pktLightBumpCenterRightSignal _ | .pktLightBumpFrontRightSignal _ | .pktLightBumpRightSignal _
  | .pktIrOpcodeLeft _ | .pktIrOpcodeRight _ | .pktLeftMotorCurrent _ | .pktRightMotorCurrent _
  | .pktMainBrushMotorCurrent _ | .pktSideBrushMotorCurrent _ | .pktStasis _ | .pktGroup0 _ | .pktGroup1 _
  | .pktGroup2 _ | .pktGroup3 _ | .pktGroup4 _ | .pktGroup5 _ | .pktGroup6 _ | .pktGroup100 _ | .pktGroup101 _
  | .pktGroup106 _ | .pktGroup107 _ => true

end Sys2Proof
end

