-- ==== Sys2Proof/Decode.lean ====
section
/-! DEFINITION. The decoder from the bytes of a transaction at the port to the instruction, and the encoder back.
The spelling is that of 30_encoding.md R82 and of the encodings in 95_test_vectors.md section 3: a selector byte, then the
operands (log 1). VALIDATE is decoded further by its buffer's byte 0, DECODE by its packet ID (log 4). -/

namespace Sys2Proof

/-- One row of format CMD of the opcode table: its opcode, how many data bytes it has when all of them are 0, and the
constructor. -/
structure CommandRow where
  opcode : Byte
  zeroBytes : Nat
  make : List Byte → Instr

/-- One row of format PKT of the opcode table: its ID, its total width and the constructor. -/
structure PacketRow where
  id : Byte
  width : Nat
  make : List Byte → Instr

/-- The opcode map (R77). -/
def commandRows : List CommandRow := [
  ⟨7#8, 0, .reset⟩,
  ⟨128#8, 0, .start⟩,
  ⟨129#8, 1, .baud⟩,
  ⟨130#8, 0, .control⟩,
  ⟨131#8, 0, .safe⟩,
  ⟨132#8, 0, .full⟩,
  ⟨133#8, 0, .power⟩,
  ⟨134#8, 0, .spot⟩,
  ⟨135#8, 0, .clean⟩,
  ⟨136#8, 0, .max⟩,
  ⟨137#8, 4, .drive⟩,
  ⟨138#8, 1, .motors⟩,
  ⟨139#8, 3, .leds⟩,
  ⟨140#8, 2, .song⟩,
  ⟨141#8, 1, .play⟩,
  ⟨142#8, 1, .sensors⟩,
  ⟨143#8, 0, .seekDock⟩,
  ⟨144#8, 3, .pwmMotors⟩,
  ⟨145#8, 4, .driveDirect⟩,
  ⟨146#8, 4, .drivePwm⟩,
  ⟨147#8, 1, .digitalOutputs⟩,
  ⟨148#8, 1, .stream⟩,
  ⟨149#8, 1, .queryList⟩,
  ⟨150#8, 1, .pauseResumeStream⟩,
  ⟨151#8, 1, .sendIr⟩,
  ⟨152#8, 1, .script⟩,
  ⟨153#8, 0, .playScript⟩,
  ⟨154#8, 0, .showScript⟩,
  ⟨155#8, 1, .waitTime⟩,
  ⟨156#8, 2, .waitDistance⟩,
  ⟨157#8, 2, .waitAngle⟩,
  ⟨158#8, 1, .waitEvent⟩,
  ⟨162#8, 2, .schedulingLeds⟩,
  ⟨163#8, 4, .digitLedsRaw⟩,
  ⟨164#8, 4, .digitLedsAscii⟩,
  ⟨165#8, 1, .buttons⟩,
  ⟨167#8, 15, .schedule⟩,
  ⟨168#8, 3, .setDayTime⟩,
  ⟨173#8, 0, .stop⟩]

/-- The leaf packets of the packet-ID map (R79). -/
def leafRows : List PacketRow := [
  ⟨7#8, 1, .pktBumpsWheelDrops⟩,
  ⟨8#8, 1, .pktWall⟩,
  ⟨9#8, 1, .pktCliffLeft⟩,
  ⟨10#8, 1, .pktCliffFrontLeft⟩,
  ⟨11#8, 1, .pktCliffFrontRight⟩,
  ⟨12#8, 1, .pktCliffRight⟩,
  ⟨13#8, 1, .pktVirtualWall⟩,
  ⟨14#8, 1, .pktWheelOvercurrents⟩,
  ⟨15#8, 1, .pktDirtDetect⟩,
  ⟨16#8, 1, .pktUnused16⟩,
  ⟨17#8, 1, .pktIrOpcodeOmni⟩,
  ⟨18#8, 1, .pktButtons⟩,
  ⟨19#8, 2, .pktDistance⟩,
  ⟨20#8, 2, .pktAngle⟩,
  ⟨21#8, 1, .pktChargingState⟩,
  ⟨22#8, 2, .pktVoltage⟩,
  ⟨23#8, 2, .pktCurrent⟩,
  ⟨24#8, 1, .pktTemperature⟩,
  ⟨25#8, 2, .pktBatteryCharge⟩,
  ⟨26#8, 2, .pktBatteryCapacity⟩,
  ⟨27#8, 2, .pktWallSignal⟩,
  ⟨28#8, 2, .pktCliffLeftSignal⟩,
  ⟨29#8, 2, .pktCliffFrontLeftSignal⟩,
  ⟨30#8, 2, .pktCliffFrontRightSignal⟩,
  ⟨31#8, 2, .pktCliffRightSignal⟩,
  ⟨32#8, 1, .pktUnused32⟩,
  ⟨33#8, 2, .pktUnused33⟩,
  ⟨34#8, 1, .pktChargingSourcesAvailable⟩,
  ⟨35#8, 1, .pktOiMode⟩,
  ⟨36#8, 1, .pktSongNumber⟩,
  ⟨37#8, 1, .pktSongPlaying⟩,
  ⟨38#8, 1, .pktNumberOfStreamPackets⟩,
  ⟨39#8, 2, .pktRequestedVelocity⟩,
  ⟨40#8, 2, .pktRequestedRadius⟩,
  ⟨41#8, 2, .pktRequestedRightVelocity⟩,
  ⟨42#8, 2, .pktRequestedLeftVelocity⟩,
  ⟨43#8, 2, .pktLeftEncoderCounts⟩,
  ⟨44#8, 2, .pktRightEncoderCounts⟩,
  ⟨45#8, 1, .pktLightBumper⟩,
  ⟨46#8, 2, .pktLightBumpLeftSignal⟩,
  ⟨47#8, 2, .pktLightBumpFrontLeftSignal⟩,
  ⟨48#8, 2, .pktLightBumpCenterLeftSignal⟩,
  ⟨49#8, 2, .pktLightBumpCenterRightSignal⟩,
  ⟨50#8, 2, .pktLightBumpFrontRightSignal⟩,
  ⟨51#8, 2, .pktLightBumpRightSignal⟩,
  ⟨52#8, 1, .pktIrOpcodeLeft⟩,
  ⟨53#8, 1, .pktIrOpcodeRight⟩,
  ⟨54#8, 2, .pktLeftMotorCurrent⟩,
  ⟨55#8, 2, .pktRightMotorCurrent⟩,
  ⟨56#8, 2, .pktMainBrushMotorCurrent⟩,
  ⟨57#8, 2, .pktSideBrushMotorCurrent⟩,
  ⟨58#8, 1, .pktStasis⟩]

/-- The group packets of the packet-ID map (R79). -/
def groupRows : List PacketRow := [
  ⟨0#8, 26, .pktGroup0⟩,
  ⟨1#8, 10, .pktGroup1⟩,
  ⟨2#8, 6, .pktGroup2⟩,
  ⟨3#8, 10, .pktGroup3⟩,
  ⟨4#8, 14, .pktGroup4⟩,
  ⟨5#8, 12, .pktGroup5⟩,
  ⟨6#8, 52, .pktGroup6⟩,
  ⟨100#8, 80, .pktGroup100⟩,
  ⟨101#8, 28, .pktGroup101⟩,
  ⟨106#8, 12, .pktGroup106⟩,
  ⟨107#8, 9, .pktGroup107⟩]

/-- The packet-ID map (R79). -/
def packetRows : List PacketRow := leafRows ++ groupRows

/-- The command row of an opcode, if it has one. -/
def commandRow (op : Byte) : Option CommandRow := commandRows.find? fun r => r.opcode == op

/-- The packet row of an ID, if it has one. -/
def packetRow (id : Byte) : Option PacketRow := packetRows.find? fun r => r.id == id

/-! ## Decoding -/

/-- VALIDATE of a buffer: "the validator's dispatch on byte 0". -/
def decodeBuffer : List Byte → Instr
  | [] => .validate []
  | op :: data =>
    match commandRow op with
    | some row => row.make data
    | none => .validate (op :: data)

/-- DECODE of an ID and a response buffer. -/
def decodePacket (id : Byte) (buf : List Byte) : Instr :=
  match packetRow id with
  | some row => row.make buf
  | none => .decode id buf

/-- R82: the source event of STREAM_STEP, tag 0 `Byte(b)`, tag 1 `IoError`, tag 2 `EndOfStream`. -/
def decodeEvent : List Byte → Option SourceEvent
  | [tag, b] => if tag = 0#8 then some (.byte b) else none
  | [tag] => if tag = 1#8 then some .ioError else if tag = 2#8 then some .endOfStream else none
  | _ => none

/-- R82: the operands after each of the four selectors. Anything else is no transaction. -/
def decode : List Byte → Except PortError Instr
  | [] => .error .emptyWord
  | sel :: operands =>
    if sel = 0#8 then .ok (decodeBuffer operands)
    else if sel = 1#8 then
      match operands with
      | [] => .error .packetIdMissing
      | id :: buf => .ok (decodePacket id buf)
    else if sel = 2#8 then
      match decodeEvent operands with
      | some ev => .ok (.streamStep ev)
      | none => .error .notAnEvent
    else if sel = 3#8 then
      match operands with
      | [] => .ok .streamReset
      | _ :: _ => .error .operandsAfterReset
    else .error (.noSuchSelector sel)

/-! ## Encoding -/

/-- R82: the operands of STREAM_STEP. -/
def encodeEvent : SourceEvent → List Byte
  | .byte b => [0#8, b]
  | .ioError => [1#8]
  | .endOfStream => [2#8]

/-- VALIDATE of the buffer `op :: data`. -/
def commandWord (op : Byte) (data : List Byte) : List Byte := 0#8 :: op :: data

/-- DECODE of `id` and `buf`. -/
def packetWord (id : Byte) (buf : List Byte) : List Byte := 1#8 :: id :: buf

/-- The bytes of a transaction at the port. -/
def encode : Instr → List Byte
  | .validate buf => 0#8 :: buf
  | .decode id buf => packetWord id buf
  | .streamStep ev => 2#8 :: encodeEvent ev
  | .streamReset => [3#8]
  | .reset data => commandWord 7#8 data
  | .start data => commandWord 128#8 data
  | .baud data => commandWord 129#8 data
  | .control data => commandWord 130#8 data
  | .safe data => commandWord 131#8 data
  | .full data => commandWord 132#8 data
  | .power data => commandWord 133#8 data
  | .spot data => commandWord 134#8 data
  | .clean data => commandWord 135#8 data
  | .max data => commandWord 136#8 data
  | .drive data => commandWord 137#8 data
  | .motors data => commandWord 138#8 data
  | .leds data => commandWord 139#8 data
  | .song data => commandWord 140#8 data
  | .play data => commandWord 141#8 data
  | .sensors data => commandWord 142#8 data
  | .seekDock data => commandWord 143#8 data
  | .pwmMotors data => commandWord 144#8 data
  | .driveDirect data => commandWord 145#8 data
  | .drivePwm data => commandWord 146#8 data
  | .digitalOutputs data => commandWord 147#8 data
  | .stream data => commandWord 148#8 data
  | .queryList data => commandWord 149#8 data
  | .pauseResumeStream data => commandWord 150#8 data
  | .sendIr data => commandWord 151#8 data
  | .script data => commandWord 152#8 data
  | .playScript data => commandWord 153#8 data
  | .showScript data => commandWord 154#8 data
  | .waitTime data => commandWord 155#8 data
  | .waitDistance data => commandWord 156#8 data
  | .waitAngle data => commandWord 157#8 data
  | .waitEvent data => commandWord 158#8 data
  | .schedulingLeds data => commandWord 162#8 data
  | .digitLedsRaw data => commandWord 163#8 data
  | .digitLedsAscii data => commandWord 164#8 data
  | .buttons data => commandWord 165#8 data
  | .schedule data => commandWord 167#8 data
  | .setDayTime data => commandWord 168#8 data
  | .stop data => commandWord 173#8 data
  | .pktBumpsWheelDrops buf => packetWord 7#8 buf
  | .pktWall buf => packetWord 8#8 buf
  | .pktCliffLeft buf => packetWord 9#8 buf
  | .pktCliffFrontLeft buf => packetWord 10#8 buf
  | .pktCliffFrontRight buf => packetWord 11#8 buf
  | .pktCliffRight buf => packetWord 12#8 buf
  | .pktVirtualWall buf => packetWord 13#8 buf
  | .pktWheelOvercurrents buf => packetWord 14#8 buf
  | .pktDirtDetect buf => packetWord 15#8 buf
  | .pktUnused16 buf => packetWord 16#8 buf
  | .pktIrOpcodeOmni buf => packetWord 17#8 buf
  | .pktButtons buf => packetWord 18#8 buf
  | .pktDistance buf => packetWord 19#8 buf
  | .pktAngle buf => packetWord 20#8 buf
  | .pktChargingState buf => packetWord 21#8 buf
  | .pktVoltage buf => packetWord 22#8 buf
  | .pktCurrent buf => packetWord 23#8 buf
  | .pktTemperature buf => packetWord 24#8 buf
  | .pktBatteryCharge buf => packetWord 25#8 buf
  | .pktBatteryCapacity buf => packetWord 26#8 buf
  | .pktWallSignal buf => packetWord 27#8 buf
  | .pktCliffLeftSignal buf => packetWord 28#8 buf
  | .pktCliffFrontLeftSignal buf => packetWord 29#8 buf
  | .pktCliffFrontRightSignal buf => packetWord 30#8 buf
  | .pktCliffRightSignal buf => packetWord 31#8 buf
  | .pktUnused32 buf => packetWord 32#8 buf
  | .pktUnused33 buf => packetWord 33#8 buf
  | .pktChargingSourcesAvailable buf => packetWord 34#8 buf
  | .pktOiMode buf => packetWord 35#8 buf
  | .pktSongNumber buf => packetWord 36#8 buf
  | .pktSongPlaying buf => packetWord 37#8 buf
  | .pktNumberOfStreamPackets buf => packetWord 38#8 buf
  | .pktRequestedVelocity buf => packetWord 39#8 buf
  | .pktRequestedRadius buf => packetWord 40#8 buf
  | .pktRequestedRightVelocity buf => packetWord 41#8 buf
  | .pktRequestedLeftVelocity buf => packetWord 42#8 buf
  | .pktLeftEncoderCounts buf => packetWord 43#8 buf
  | .pktRightEncoderCounts buf => packetWord 44#8 buf
  | .pktLightBumper buf => packetWord 45#8 buf
  | .pktLightBumpLeftSignal buf => packetWord 46#8 buf
  | .pktLightBumpFrontLeftSignal buf => packetWord 47#8 buf
  | .pktLightBumpCenterLeftSignal buf => packetWord 48#8 buf
  | .pktLightBumpCenterRightSignal buf => packetWord 49#8 buf
  | .pktLightBumpFrontRightSignal buf => packetWord 50#8 buf
  | .pktLightBumpRightSignal buf => packetWord 51#8 buf
  | .pktIrOpcodeLeft buf => packetWord 52#8 buf
  | .pktIrOpcodeRight buf => packetWord 53#8 buf
  | .pktLeftMotorCurrent buf => packetWord 54#8 buf
  | .pktRightMotorCurrent buf => packetWord 55#8 buf
  | .pktMainBrushMotorCurrent buf => packetWord 56#8 buf
  | .pktSideBrushMotorCurrent buf => packetWord 57#8 buf
  | .pktStasis buf => packetWord 58#8 buf
  | .pktGroup0 buf => packetWord 0#8 buf
  | .pktGroup1 buf => packetWord 1#8 buf
  | .pktGroup2 buf => packetWord 2#8 buf
  | .pktGroup3 buf => packetWord 3#8 buf
  | .pktGroup4 buf => packetWord 4#8 buf
  | .pktGroup5 buf => packetWord 5#8 buf
  | .pktGroup6 buf => packetWord 6#8 buf
  | .pktGroup100 buf => packetWord 100#8 buf
  | .pktGroup101 buf => packetWord 101#8 buf
  | .pktGroup106 buf => packetWord 106#8 buf
  | .pktGroup107 buf => packetWord 107#8 buf

/-! ## The opcode table's own words

A row of format OP gives the selector; a row of format CMD gives the first byte of a command buffer, and a row of
format PKT a packet ID: three code spaces of one byte each (R77, R79, R82), which overlap. `tableTransaction` says which
space a table word is read in, and lays it out as the transaction at the port (log 5). -/

/-- The bytes of a table word, bit 0 the least significant bit of the first. -/
def tableBytes (nbits w : Nat) : List Byte :=
  (List.range ((nbits + 7) / 8)).map fun k => byte (w / 256 ^ k)

/-- `bs` followed by zero bytes, up to `n` bytes in all. -/
def padZeros (n : Nat) (bs : List Byte) : List Byte := bs ++ List.replicate (n - bs.length) 0#8

/-- An OP row's transaction with its operands zero: an empty buffer, packet 0 with an empty buffer, `Byte(0)`, nothing. -/
def opTransaction (sel : Byte) : List Byte :=
  if sel = 1#8 then [sel, 0#8] else if sel = 2#8 then [sel, 0#8, 0#8] else [sel]

/-- The transaction a table word stands for: a single byte 0 to 3 is a selector; else an opcode with a command row; else
an ID with a packet row; a byte of no row is laid out as it is. -/
def tableTransaction (nbits w : Nat) : List Byte :=
  match tableBytes nbits w with
  | [] => []
  | b :: rest =>
    if rest.isEmpty && decide (b.toNat < 4) then opTransaction b
    else
      match commandRow b, packetRow b with
      | some row, _ => commandWord b (padZeros row.zeroBytes rest)
      | none, some row => packetWord b (padZeros row.width rest)
      | none, none => b :: rest

/-- The instruction the decoder reads from a word of the opcode table. -/
def decodeTableWord (nbits w : Nat) : Option Instr := (decode (tableTransaction nbits w)).toOption

end Sys2Proof
end

