-- ==== Sys2Proof/Machine/CommandCatalog.lean ====
section
/-! DEFINITION. The default Command Catalog, one entry per rule R101 to R139 of 40_command_catalog.md, and the
default set of known opcodes (R100). -/

namespace Sys2Proof.Machine

/-- A declared unsigned 1-byte field with domain `[lo, hi]`. -/
def u8 (offset : Nat) (lo hi : Int) : Field := ⟨offset, 1, false, lo, hi, []⟩

/-- A declared signed 1-byte field with domain `[lo, hi]`. -/
def s8 (offset : Nat) (lo hi : Int) : Field := ⟨offset, 1, true, lo, hi, []⟩

/-- A declared signed 2-byte field with domain `[lo, hi]`. -/
def s16 (offset : Nat) (lo hi : Int) : Field := ⟨offset, 2, true, lo, hi, []⟩

/-- The same field with a sentinel list. -/
def withSentinels (sentinels : List Int) (f : Field) : Field := { f with sentinels := sentinels }

/-- An entry that declares no field under either profile. -/
def plainEntry (opcode : Byte) (mnemonic : String) (length : LengthRule) : CommandEntry :=
  ⟨opcode, mnemonic, length, [], []⟩

/-- An entry that declares fields under the EXTENDED profile only (R141, R142). -/
def extendedEntry (opcode : Byte) (mnemonic : String) (length : LengthRule) (fields : List Field) : CommandEntry :=
  ⟨opcode, mnemonic, length, [], fields⟩

/-- R101. Operands: none. -/
def entryReset : CommandEntry :=
  plainEntry 7#8 "RESET" (.fixed 0)

/-- R102. Operands: none. -/
def entryStart : CommandEntry :=
  plainEntry 128#8 "START" (.fixed 0)

/-- R103. Operands: byte 1 U8 baud_code. -/
def entryBaud : CommandEntry :=
  extendedEntry 129#8 "BAUD" (.fixed 1)
    [u8 1 0 11]

/-- R104. Operands: none. -/
def entryControl : CommandEntry :=
  plainEntry 130#8 "CONTROL" (.fixed 0)

/-- R105. Operands: none. -/
def entrySafe : CommandEntry :=
  plainEntry 131#8 "SAFE" (.fixed 0)

/-- R106. Operands: none. -/
def entryFull : CommandEntry :=
  plainEntry 132#8 "FULL" (.fixed 0)

/-- R107. Operands: none. -/
def entryPower : CommandEntry :=
  plainEntry 133#8 "POWER" (.fixed 0)

/-- R108. Operands: none. -/
def entrySpot : CommandEntry :=
  plainEntry 134#8 "SPOT" (.fixed 0)

/-- R109. Operands: none. -/
def entryClean : CommandEntry :=
  plainEntry 135#8 "CLEAN" (.fixed 0)

/-- R110. Operands: none. -/
def entryMax : CommandEntry :=
  plainEntry 136#8 "MAX" (.fixed 0)

/-- R111. Operands: byte 1-2 S16 velocity, byte 3-4 S16 radius. -/
def entryDrive : CommandEntry :=
  ⟨137#8, "DRIVE", .fixed 4,
    [s16 1 (-500) 500, withSentinels [32767, -32768] (s16 3 (-2000) 2000)],
    [s16 1 (-500) 500, withSentinels [32767, -32768] (s16 3 (-2000) 2000)]⟩

/-- R112. Operands: byte 1 U8 motor_bits. -/
def entryMotors : CommandEntry :=
  plainEntry 138#8 "MOTORS" (.fixed 1)

/-- R113. Operands: byte 1 U8 led_bits, byte 2 U8 power_color, byte 3 U8 power_intensity. -/
def entryLeds : CommandEntry :=
  plainEntry 139#8 "LEDS" (.fixed 3)

/-- R114. Operands: byte 1 U8 song_number, byte 2 U8 song_length; followed by song_length pairs [note][duration]. -/
def entrySong : CommandEntry :=
  plainEntry 140#8 "SONG" (.prefixed 2 2 2)

/-- R115. Operands: byte 1 U8 song_number. -/
def entryPlay : CommandEntry :=
  plainEntry 141#8 "PLAY" (.fixed 1)

/-- R116. Operands: byte 1 U8 packet_id. -/
def entrySensors : CommandEntry :=
  plainEntry 142#8 "SENSORS" (.fixed 1)

/-- R117. Operands: none. -/
def entrySeekDock : CommandEntry :=
  plainEntry 143#8 "SEEK_DOCK" (.fixed 0)

/-- R118. Operands: byte 1 S8 main_brush_pwm, byte 2 S8 side_brush_pwm, byte 3 U8 vacuum_pwm. -/
def entryPwmMotors : CommandEntry :=
  extendedEntry 144#8 "PWM_MOTORS" (.fixed 3)
    [s8 1 (-127) 127, s8 2 (-127) 127, u8 3 0 127]

/-- R119. Operands: byte 1-2 S16 right_velocity, byte 3-4 S16 left_velocity. -/
def entryDriveDirect : CommandEntry :=
  extendedEntry 145#8 "DRIVE_DIRECT" (.fixed 4)
    [s16 1 (-500) 500, s16 3 (-500) 500]

/-- R120. Operands: byte 1-2 S16 right_pwm, byte 3-4 S16 left_pwm. -/
def entryDrivePwm : CommandEntry :=
  extendedEntry 146#8 "DRIVE_PWM" (.fixed 4)
    [s16 1 (-255) 255, s16 3 (-255) 255]

/-- R121. Operands: byte 1 U8 output_bits. -/
def entryDigitalOutputs : CommandEntry :=
  plainEntry 147#8 "DIGITAL_OUTPUTS" (.fixed 1)

/-- R122. Operands: byte 1 U8 packet_count; followed by packet_count packet IDs. -/
def entryStream : CommandEntry :=
  plainEntry 148#8 "STREAM" (.prefixed 1 1 1)

/-- R123. Operands: byte 1 U8 packet_count; followed by packet_count packet IDs. -/
def entryQueryList : CommandEntry :=
  plainEntry 149#8 "QUERY_LIST" (.prefixed 1 1 1)

/-- R124. Operands: byte 1 U8 stream_state. -/
def entryPauseResumeStream : CommandEntry :=
  extendedEntry 150#8 "PAUSE_RESUME_STREAM" (.fixed 1)
    [u8 1 0 1]

/-- R125. Operands: byte 1 U8 ir_byte. -/
def entrySendIr : CommandEntry :=
  plainEntry 151#8 "SEND_IR" (.fixed 1)

/-- R126. Operands: byte 1 U8 script_length; followed by script_length script bytes. -/
def entryScript : CommandEntry :=
  plainEntry 152#8 "SCRIPT" (.prefixed 1 1 1)

/-- R127. Operands: none. -/
def entryPlayScript : CommandEntry :=
  plainEntry 153#8 "PLAY_SCRIPT" (.fixed 0)

/-- R128. Operands: none. -/
def entryShowScript : CommandEntry :=
  plainEntry 154#8 "SHOW_SCRIPT" (.fixed 0)

/-- R129. Operands: byte 1 U8 time. -/
def entryWaitTime : CommandEntry :=
  plainEntry 155#8 "WAIT_TIME" (.fixed 1)

/-- R130. Operands: byte 1-2 S16 distance. -/
def entryWaitDistance : CommandEntry :=
  plainEntry 156#8 "WAIT_DISTANCE" (.fixed 2)

/-- R131. Operands: byte 1-2 S16 angle. -/
def entryWaitAngle : CommandEntry :=
  plainEntry 157#8 "WAIT_ANGLE" (.fixed 2)

/-- R132. Operands: byte 1 S8 event. -/
def entryWaitEvent : CommandEntry :=
  plainEntry 158#8 "WAIT_EVENT" (.fixed 1)

/-- R133. Operands: byte 1 U8 weekday_led_bits, byte 2 U8 scheduling_led_bits. -/
def entrySchedulingLeds : CommandEntry :=
  plainEntry 162#8 "SCHEDULING_LEDS" (.fixed 2)

/-- R134. Operands: byte 1 U8 digit3, byte 2 U8 digit2, byte 3 U8 digit1, byte 4 U8 digit0. -/
def entryDigitLedsRaw : CommandEntry :=
  extendedEntry 163#8 "DIGIT_LEDS_RAW" (.fixed 4)
    [u8 1 0 127, u8 2 0 127, u8 3 0 127, u8 4 0 127]

/-- R135. Operands: byte 1 U8 digit3, byte 2 U8 digit2, byte 3 U8 digit1, byte 4 U8 digit0. -/
def entryDigitLedsAscii : CommandEntry :=
  extendedEntry 164#8 "DIGIT_LEDS_ASCII" (.fixed 4)
    [u8 1 32 126, u8 2 32 126, u8 3 32 126, u8 4 32 126]

/-- R136. Operands: byte 1 U8 button_bits. -/
def entryButtons : CommandEntry :=
  plainEntry 165#8 "BUTTONS" (.fixed 1)

/-- R137. Operands: byte 1 U8 days, byte 2 U8 sun_hour, byte 3 U8 sun_minute, byte 4 U8 mon_hour, byte 5 U8
mon_minute, byte 6 U8 tue_hour, byte 7 U8 tue_minute, byte 8 U8 wed_hour, byte 9 U8 wed_minute, byte 10 U8 thu_hour,
byte 11 U8 thu_minute, byte 12 U8 fri_hour, byte 13 U8 fri_minute, byte 14 U8 sat_hour, byte 15 U8 sat_minute. -/
def entrySchedule : CommandEntry :=
  extendedEntry 167#8 "SCHEDULE" (.fixed 15)
    [u8 1 0 127, u8 2 0 23, u8 3 0 59, u8 4 0 23, u8 5 0 59, u8 6 0 23, u8 7 0 59, u8 8 0 23, u8 9 0 59, u8 10 0 23,
     u8 11 0 59, u8 12 0 23, u8 13 0 59, u8 14 0 23, u8 15 0 59]

/-- R138. Operands: byte 1 U8 day, byte 2 U8 hour, byte 3 U8 minute. -/
def entrySetDayTime : CommandEntry :=
  extendedEntry 168#8 "SET_DAY_TIME" (.fixed 3)
    [u8 1 0 6, u8 2 0 23, u8 3 0 59]

/-- R139. Operands: none. -/
def entryStop : CommandEntry :=
  plainEntry 173#8 "STOP" (.fixed 0)

/-- R100: the default `KNOWN_OPCODES`, 39 opcodes. -/
def defaultKnownOpcodes : List Byte :=
  [7#8, 128#8, 129#8, 130#8, 131#8, 132#8, 133#8, 134#8, 135#8, 136#8, 137#8, 138#8, 139#8, 140#8, 141#8, 142#8,
   143#8, 144#8, 145#8, 146#8, 147#8, 148#8, 149#8, 150#8, 151#8, 152#8, 153#8, 154#8, 155#8, 156#8, 157#8, 158#8,
   162#8, 163#8, 164#8, 165#8, 167#8, 168#8, 173#8]

/-- R8: the default `CMD_CATALOG`. -/
def defaultCmdCatalog : List CommandEntry :=
  [entryReset, entryStart, entryBaud, entryControl, entrySafe, entryFull, entryPower, entrySpot, entryClean,
   entryMax, entryDrive, entryMotors, entryLeds, entrySong, entryPlay, entrySensors, entrySeekDock, entryPwmMotors,
   entryDriveDirect, entryDrivePwm, entryDigitalOutputs, entryStream, entryQueryList, entryPauseResumeStream,
   entrySendIr, entryScript, entryPlayScript, entryShowScript, entryWaitTime, entryWaitDistance, entryWaitAngle,
   entryWaitEvent, entrySchedulingLeds, entryDigitLedsRaw, entryDigitLedsAscii, entryButtons, entrySchedule,
   entrySetDayTime, entryStop]

end Sys2Proof.Machine
end

