-- ==== Sys2Proof/Machine/PacketCatalog.lean ====
section
/-! DEFINITION. The default Packet Catalog, one entry per rule R202 to R264 of 42_packet_catalog.md. Packets 43 and 44
stand here as signed, the default; the parameter `SIGNED_ENCODER_COUNTS` is applied at the lookup (Catalogs.lean). -/

namespace Sys2Proof.Machine

/-- A leaf packet. -/
def leafEntry (id : Byte) (name : String) (byteWidth : Nat) (signed : Bool) : PacketEntry :=
  ⟨id, .leaf name byteWidth signed⟩

/-- The packet IDs `first .. last` in ascending order. -/
def idRange (first last : Nat) : List Byte := (List.range (last + 1 - first)).map fun k => byte (first + k)

/-- A group packet whose members are the leaves `first .. last` in ascending order (R200(b)). -/
def groupEntry (id : Byte) (first last : Nat) : PacketEntry := ⟨id, .group (idRange first last)⟩

/-- R202. -/
def entryPktBumpsWheelDrops : PacketEntry := leafEntry 7#8 "BUMPS_WHEEL_DROPS" 1 false

/-- R203. -/
def entryPktWall : PacketEntry := leafEntry 8#8 "WALL" 1 false

/-- R204. -/
def entryPktCliffLeft : PacketEntry := leafEntry 9#8 "CLIFF_LEFT" 1 false

/-- R205. -/
def entryPktCliffFrontLeft : PacketEntry := leafEntry 10#8 "CLIFF_FRONT_LEFT" 1 false

/-- R206. -/
def entryPktCliffFrontRight : PacketEntry := leafEntry 11#8 "CLIFF_FRONT_RIGHT" 1 false

/-- R207. -/
def entryPktCliffRight : PacketEntry := leafEntry 12#8 "CLIFF_RIGHT" 1 false

/-- R208. -/
def entryPktVirtualWall : PacketEntry := leafEntry 13#8 "VIRTUAL_WALL" 1 false

/-- R209. -/
def entryPktWheelOvercurrents : PacketEntry := leafEntry 14#8 "WHEEL_OVERCURRENTS" 1 false

/-- R210. -/
def entryPktDirtDetect : PacketEntry := leafEntry 15#8 "DIRT_DETECT" 1 false

/-- R211. -/
def entryPktUnused16 : PacketEntry := leafEntry 16#8 "UNUSED_16" 1 false

/-- R212. -/
def entryPktIrOpcodeOmni : PacketEntry := leafEntry 17#8 "IR_OPCODE_OMNI" 1 false

/-- R213. -/
def entryPktButtons : PacketEntry := leafEntry 18#8 "BUTTONS" 1 false

/-- R214. -/
def entryPktDistance : PacketEntry := leafEntry 19#8 "DISTANCE" 2 true

/-- R215. -/
def entryPktAngle : PacketEntry := leafEntry 20#8 "ANGLE" 2 true

/-- R216. -/
def entryPktChargingState : PacketEntry := leafEntry 21#8 "CHARGING_STATE" 1 false

/-- R217. -/
def entryPktVoltage : PacketEntry := leafEntry 22#8 "VOLTAGE" 2 false

/-- R218. -/
def entryPktCurrent : PacketEntry := leafEntry 23#8 "CURRENT" 2 true

/-- R219. -/
def entryPktTemperature : PacketEntry := leafEntry 24#8 "TEMPERATURE" 1 true

/-- R220. -/
def entryPktBatteryCharge : PacketEntry := leafEntry 25#8 "BATTERY_CHARGE" 2 false

/-- R221. -/
def entryPktBatteryCapacity : PacketEntry := leafEntry 26#8 "BATTERY_CAPACITY" 2 false

/-- R222. -/
def entryPktWallSignal : PacketEntry := leafEntry 27#8 "WALL_SIGNAL" 2 false

/-- R223. -/
def entryPktCliffLeftSignal : PacketEntry := leafEntry 28#8 "CLIFF_LEFT_SIGNAL" 2 false

/-- R224. -/
def entryPktCliffFrontLeftSignal : PacketEntry := leafEntry 29#8 "CLIFF_FRONT_LEFT_SIGNAL" 2 false

/-- R225. -/
def entryPktCliffFrontRightSignal : PacketEntry := leafEntry 30#8 "CLIFF_FRONT_RIGHT_SIGNAL" 2 false

/-- R226. -/
def entryPktCliffRightSignal : PacketEntry := leafEntry 31#8 "CLIFF_RIGHT_SIGNAL" 2 false

/-- R227. -/
def entryPktUnused32 : PacketEntry := leafEntry 32#8 "UNUSED_32" 1 false

/-- R228. -/
def entryPktUnused33 : PacketEntry := leafEntry 33#8 "UNUSED_33" 2 false

/-- R229. -/
def entryPktChargingSourcesAvailable : PacketEntry := leafEntry 34#8 "CHARGING_SOURCES_AVAILABLE" 1 false

/-- R230. -/
def entryPktOiMode : PacketEntry := leafEntry 35#8 "OI_MODE" 1 false

/-- R231. -/
def entryPktSongNumber : PacketEntry := leafEntry 36#8 "SONG_NUMBER" 1 false

/-- R232. -/
def entryPktSongPlaying : PacketEntry := leafEntry 37#8 "SONG_PLAYING" 1 false

/-- R233. -/
def entryPktNumberOfStreamPackets : PacketEntry := leafEntry 38#8 "NUMBER_OF_STREAM_PACKETS" 1 false

/-- R234. -/
def entryPktRequestedVelocity : PacketEntry := leafEntry 39#8 "REQUESTED_VELOCITY" 2 true

/-- R235. -/
def entryPktRequestedRadius : PacketEntry := leafEntry 40#8 "REQUESTED_RADIUS" 2 true

/-- R236. -/
def entryPktRequestedRightVelocity : PacketEntry := leafEntry 41#8 "REQUESTED_RIGHT_VELOCITY" 2 true

/-- R237. -/
def entryPktRequestedLeftVelocity : PacketEntry := leafEntry 42#8 "REQUESTED_LEFT_VELOCITY" 2 true

/-- R238. -/
def entryPktLeftEncoderCounts : PacketEntry := leafEntry 43#8 "LEFT_ENCODER_COUNTS" 2 true

/-- R239. -/
def entryPktRightEncoderCounts : PacketEntry := leafEntry 44#8 "RIGHT_ENCODER_COUNTS" 2 true

/-- R240. -/
def entryPktLightBumper : PacketEntry := leafEntry 45#8 "LIGHT_BUMPER" 1 false

/-- R241. -/
def entryPktLightBumpLeftSignal : PacketEntry := leafEntry 46#8 "LIGHT_BUMP_LEFT_SIGNAL" 2 false

/-- R242. -/
def entryPktLightBumpFrontLeftSignal : PacketEntry := leafEntry 47#8 "LIGHT_BUMP_FRONT_LEFT_SIGNAL" 2 false

/-- R243. -/
def entryPktLightBumpCenterLeftSignal : PacketEntry := leafEntry 48#8 "LIGHT_BUMP_CENTER_LEFT_SIGNAL" 2 false

/-- R244. -/
def entryPktLightBumpCenterRightSignal : PacketEntry := leafEntry 49#8 "LIGHT_BUMP_CENTER_RIGHT_SIGNAL" 2 false

/-- R245. -/
def entryPktLightBumpFrontRightSignal : PacketEntry := leafEntry 50#8 "LIGHT_BUMP_FRONT_RIGHT_SIGNAL" 2 false

/-- R246. -/
def entryPktLightBumpRightSignal : PacketEntry := leafEntry 51#8 "LIGHT_BUMP_RIGHT_SIGNAL" 2 false

/-- R247. -/
def entryPktIrOpcodeLeft : PacketEntry := leafEntry 52#8 "IR_OPCODE_LEFT" 1 false

/-- R248. -/
def entryPktIrOpcodeRight : PacketEntry := leafEntry 53#8 "IR_OPCODE_RIGHT" 1 false

/-- R249. -/
def entryPktLeftMotorCurrent : PacketEntry := leafEntry 54#8 "LEFT_MOTOR_CURRENT" 2 true

/-- R250. -/
def entryPktRightMotorCurrent : PacketEntry := leafEntry 55#8 "RIGHT_MOTOR_CURRENT" 2 true

/-- R251. -/
def entryPktMainBrushMotorCurrent : PacketEntry := leafEntry 56#8 "MAIN_BRUSH_MOTOR_CURRENT" 2 true

/-- R252. -/
def entryPktSideBrushMotorCurrent : PacketEntry := leafEntry 57#8 "SIDE_BRUSH_MOTOR_CURRENT" 2 true

/-- R253. -/
def entryPktStasis : PacketEntry := leafEntry 58#8 "STASIS" 1 false

/-- R254: 26 bytes in all. -/
def entryPktGroup0 : PacketEntry := groupEntry 0#8 7 26

/-- R255: 10 bytes in all. -/
def entryPktGroup1 : PacketEntry := groupEntry 1#8 7 16

/-- R256: 6 bytes in all. -/
def entryPktGroup2 : PacketEntry := groupEntry 2#8 17 20

/-- R257: 10 bytes in all. -/
def entryPktGroup3 : PacketEntry := groupEntry 3#8 21 26

/-- R258: 14 bytes in all. -/
def entryPktGroup4 : PacketEntry := groupEntry 4#8 27 34

/-- R259: 12 bytes in all. -/
def entryPktGroup5 : PacketEntry := groupEntry 5#8 35 42

/-- R260: 52 bytes in all. -/
def entryPktGroup6 : PacketEntry := groupEntry 6#8 7 42

/-- R261: 80 bytes in all. -/
def entryPktGroup100 : PacketEntry := groupEntry 100#8 7 58

/-- R262: 28 bytes in all. -/
def entryPktGroup101 : PacketEntry := groupEntry 101#8 43 58

/-- R263: 12 bytes in all. -/
def entryPktGroup106 : PacketEntry := groupEntry 106#8 46 51

/-- R264: 9 bytes in all. -/
def entryPktGroup107 : PacketEntry := groupEntry 107#8 54 58

/-- The default leaf entries, 7 to 58. -/
def defaultLeafEntries : List PacketEntry :=
  [entryPktBumpsWheelDrops, entryPktWall, entryPktCliffLeft, entryPktCliffFrontLeft, entryPktCliffFrontRight,
   entryPktCliffRight, entryPktVirtualWall, entryPktWheelOvercurrents, entryPktDirtDetect, entryPktUnused16,
   entryPktIrOpcodeOmni, entryPktButtons, entryPktDistance, entryPktAngle, entryPktChargingState, entryPktVoltage,
   entryPktCurrent, entryPktTemperature, entryPktBatteryCharge, entryPktBatteryCapacity, entryPktWallSignal,
   entryPktCliffLeftSignal, entryPktCliffFrontLeftSignal, entryPktCliffFrontRightSignal, entryPktCliffRightSignal,
   entryPktUnused32, entryPktUnused33, entryPktChargingSourcesAvailable, entryPktOiMode, entryPktSongNumber,
   entryPktSongPlaying, entryPktNumberOfStreamPackets, entryPktRequestedVelocity, entryPktRequestedRadius,
   entryPktRequestedRightVelocity, entryPktRequestedLeftVelocity, entryPktLeftEncoderCounts,
   entryPktRightEncoderCounts, entryPktLightBumper, entryPktLightBumpLeftSignal, entryPktLightBumpFrontLeftSignal,
   entryPktLightBumpCenterLeftSignal, entryPktLightBumpCenterRightSignal, entryPktLightBumpFrontRightSignal,
   entryPktLightBumpRightSignal, entryPktIrOpcodeLeft, entryPktIrOpcodeRight, entryPktLeftMotorCurrent,
   entryPktRightMotorCurrent, entryPktMainBrushMotorCurrent, entryPktSideBrushMotorCurrent, entryPktStasis]

/-- The default group entries. -/
def defaultGroupEntries : List PacketEntry :=
  [entryPktGroup0, entryPktGroup1, entryPktGroup2, entryPktGroup3, entryPktGroup4, entryPktGroup5, entryPktGroup6,
   entryPktGroup100, entryPktGroup101, entryPktGroup106, entryPktGroup107]

/-- R8: the default `PKT_CATALOG`. -/
def defaultPktCatalog : List PacketEntry := defaultLeafEntries ++ defaultGroupEntries

end Sys2Proof.Machine
end

