-- ==== Sys2Proof/Machine/Catalogs.lean ====
section
/-! DEFINITION. The two catalog ROMs as the units read them (10_state.md R23), what makes a catalog well formed
(40_command_catalog.md R140, 42_packet_catalog.md R200), and the default configuration (00_scope.md R8). -/

namespace Sys2Proof.Machine

/-! ## The Command Catalog CC -/

/-- R141: the profile selects which fields the catalog declares. -/
def specUnder (profile : DomainProfile) (e : CommandEntry) : CommandSpec :=
  match profile with
  | .source => ⟨e.mnemonic, e.length, e.sourceFields⟩
  | .extended => ⟨e.mnemonic, e.length, e.extendedFields⟩

/-- R23: `CC : byte -> Option CommandSpec`. An opcode that is not known has none (R78, R100). -/
def commandSpec (c : Config) (op : Byte) : Option CommandSpec :=
  if c.knownOpcodes.contains op then
    (c.cmdCatalog.find? fun e => e.opcode == op).map (specUnder c.domainProfile)
  else none

/-! ## The Packet Catalog PC -/

/-- R238, R239: packets 43 and 44 have the signedness of the parameter `SIGNED_ENCODER_COUNTS` (log 6). -/
def applyEncoderSign (c : Config) (id : Byte) : PacketSpec → PacketSpec
  | .leaf name w sg => .leaf name w (if id == 43#8 || id == 44#8 then c.signedEncoderCounts else sg)
  | .group members => .group members

/-- R23: `PC : byte -> Option PacketSpec`. -/
def packetSpec (c : Config) (id : Byte) : Option PacketSpec :=
  (c.pktCatalog.find? fun e => e.id == id).map fun e => applyEncoderSign c id e.spec

/-- The width of a leaf; 0 for an ID that is no leaf, which no member of an admitted catalog is (R200(b)). -/
def leafWidth (c : Config) (id : Byte) : Nat :=
  match packetSpec c id with
  | some (.leaf _ w _) => w
  | _ => 0

/-- The signedness of a leaf. -/
def leafSigned (c : Config) (id : Byte) : Bool :=
  match packetSpec c id with
  | some (.leaf _ _ sg) => sg
  | _ => false

/-- The leaves a packet is made of: itself, or a group's members in order (R281, R286). -/
def membersOf (id : Byte) : PacketSpec → List Byte
  | .leaf _ _ _ => [id]
  | .group members => members

/-- R25: the total width is the sum of the members' leaf widths. -/
def totalWidth (c : Config) (members : List Byte) : Nat := (members.map (leafWidth c)).sum

/-! ## Well-formed catalogs -/

/-- R140(b), R140(c): the last buffer index a declared field may cover. -/
def lastFieldByte : LengthRule → Nat
  | .fixed k => k
  | .prefixed off _ _ => off

/-- R140(c): `1 <= off <= base`. -/
def lengthWf : LengthRule → Bool
  | .fixed _ => true
  | .prefixed off base _ => decide (1 ≤ off) && decide (off ≤ base)

/-- R140(b), (c), (d) for one field. -/
def fieldWf (len : LengthRule) (f : Field) : Bool :=
  decide (1 ≤ f.byteOffset) && decide (f.byteOffset + f.byteWidth ≤ lastFieldByte len + 1)
    && (f.byteWidth == 1 || f.byteWidth == 2) && decide (f.min ≤ f.max)

/-- Two fields share no byte. -/
def fieldsApart (f g : Field) : Bool :=
  decide (f.byteOffset + f.byteWidth ≤ g.byteOffset) || decide (g.byteOffset + g.byteWidth ≤ f.byteOffset)

/-- R140(e): no two fields overlap. -/
def fieldsDisjoint : List Field → Bool
  | [] => true
  | f :: fs => fs.all (fieldsApart f) && fieldsDisjoint fs

/-- R140(b) to (e) for one entry. -/
def commandSpecWf (spec : CommandSpec) : Bool :=
  lengthWf spec.length && spec.fields.all (fieldWf spec.length) && fieldsDisjoint spec.fields

/-- R140(a): how many entries an opcode has. -/
def entriesOf (c : Config) (op : Byte) : Nat := (c.cmdCatalog.filter fun e => e.opcode == op).length

/-- R140(b) to (e) for an entry, under the selected profile (R141), and that its opcode is known: `KNOWN_OPCODES` is the
set of opcodes the catalog holds (R8), and every other byte value has no `CommandSpec` (R78, R100; DEDUCED, log 15). -/
def entryWf (c : Config) (e : CommandEntry) : Bool :=
  c.knownOpcodes.contains e.opcode && commandSpecWf (specUnder c.domainProfile e)

/-- R140: every known opcode has exactly one entry, and every entry is well formed. -/
def cmdCatalogWf (c : Config) : Bool :=
  (c.knownOpcodes.all fun op => entriesOf c op == 1) && c.cmdCatalog.all (entryWf c)

/-- R200(b), (c): RLIB's groups, as `(id, first member, last member, total width)`. -/
def rlibGroups : List (Byte × Nat × Nat × Nat) :=
  [(0#8, 7, 26, 26), (1#8, 7, 16, 10), (2#8, 17, 20, 6), (3#8, 21, 26, 10), (4#8, 27, 34, 14), (5#8, 35, 42, 12),
   (6#8, 7, 42, 52), (100#8, 7, 58, 80), (101#8, 43, 58, 28), (106#8, 46, 51, 12), (107#8, 54, 58, 9)]

/-- R200(a) for one ID: a leaf of width 1 or 2. -/
def isLeaf12 (c : Config) (id : Byte) : Bool :=
  match packetSpec c id with
  | some (.leaf _ w _) => w == 1 || w == 2
  | _ => false

/-- R200(b), (c) for one group of RLIB's. -/
def groupWf (c : Config) (g : Byte × Nat × Nat × Nat) : Bool :=
  match packetSpec c g.1 with
  | some (.group members) => members == idRange g.2.1 g.2.2.1 && totalWidth c members == g.2.2.2
  | _ => false

/-- R200(d): an entry is for a leaf ID or a group ID. -/
def hasPacketId (e : PacketEntry) : Bool := (idRange 7 58).contains e.id || (rlibGroups.map (·.1)).contains e.id

/-- R23: PC has at most one `PacketSpec` for an ID, so no two entries are for one ID (DEDUCED, log 17). -/
def onlyEntry (c : Config) (e : PacketEntry) : Bool := (c.pktCatalog.filter fun f => f.id == e.id).length == 1

/-- R265: the width RLIB's stream example forces beyond R200: packet 29 has two bytes. The other widths R265 lists follow
from R200. DEDUCED (safe, log 16): R265 and D11 make it normative, and R200 does not list it among its checks. -/
def exampleWidthWf (c : Config) : Bool :=
  match packetSpec c 29#8 with
  | some (.leaf _ w _) => w == 2
  | _ => false

/-- R200, and R265 where R200 does not force it. -/
def pktCatalogWf (c : Config) : Bool :=
  (idRange 7 58).all (isLeaf12 c) && rlibGroups.all (groupWf c)
    && c.pktCatalog.all (fun e => hasPacketId e && onlyEntry c e) && exampleWidthWf c

/-- R455: the block is instantiated only on well-formed catalogs. -/
def admitted (c : Config) : Bool := cmdCatalogWf c && pktCatalogWf c

/-! ## The default configuration -/

/-- R8: every parameter at its default. -/
def defaultConfig : Config where
  knownOpcodes := defaultKnownOpcodes
  cmdCatalog := defaultCmdCatalog
  domainProfile := .source
  pktCatalog := defaultPktCatalog
  signedEncoderCounts := true
  streamGroupPolicy := .leafOnly

end Sys2Proof.Machine
end

