-- ==== Sys2Proof/Machine/Operands.lean ====
section
/-! DEFINITION. Operand assembly: from bytes to field values (00_scope.md R12, R13; 20_memory.md R52; 30_encoding.md R72, R73). -/

namespace Sys2Proof.Machine

/-- R12, R52: `be(b_0, ..., b_{n-1})`, high byte first. -/
def be (bs : List Byte) : Nat := bs.foldl (fun acc b => acc * 256 + b.toNat) 0

/-- R12: `zext_N(v) = v`. -/
def zext (v : Nat) : Int := v

/-- R12: `sext_N(v)`, the two's-complement reading of an N-bit pattern. -/
def sext (n v : Nat) : Int := if v < 2 ^ (n - 1) then (v : Int) else (v : Int) - 2 ^ n

/-- The bytes `addr .. addr+n-1` of a buffer. -/
def bytesAt (buf : List Byte) (addr n : Nat) : List Byte := (buf.drop addr).take n

/-- R12: `MemRead(addr, n)`, `be` of the bytes at `addr .. addr+n-1` of the operand buffer. The spec defines it inside the
buffer only, and every rule checks that first (R55; log 10). -/
def memRead (buf : List Byte) (addr n : Nat) : Nat := be (bytesAt buf addr n)

/-- The value of a `w`-byte pattern, signed or unsigned. -/
def patternValue (w : Nat) (signed : Bool) (raw : Nat) : Int := if signed then sext (8 * w) raw else zext raw

/-- R13: `LeafValue(w, signed, bytes)`, the one byte-to-value rule of all three units. -/
def leafValue (w : Nat) (signed : Bool) (bs : List Byte) : Int := patternValue w signed (be bs)

/-- R72: the value of a declared field of a command buffer. -/
def fieldValue (f : Field) (buf : List Byte) : Int :=
  patternValue f.byteWidth f.signed (memRead buf f.byteOffset f.byteWidth)

/-- R166: a value lies in the domain of a field when it is in `[min, max]` or equals one of the sentinels. -/
def inDomain (f : Field) (v : Int) : Bool := (decide (f.min ≤ v) && decide (v ≤ f.max)) || f.sentinels.contains v

/-- R162: `DataBytes(length, buf)`. A prefixed buffer too short for its prefix has none. -/
def dataBytes (len : LengthRule) (buf : List Byte) : Option Nat :=
  match len with
  | .fixed k => some k
  | .prefixed off base per => (buf[off]?).map fun l => base + per * l.toNat

/-! ## The field-encoding inverse (43_group_decoder.md R287): a test aid, not an operation of the block -/

/-- R287: `Encode(w, sg, v)`, for `v` in the type's range. -/
def encodeValue (w : Nat) (signed : Bool) (v : Int) : List Byte :=
  let u := (if signed && decide (v < 0) then v + 2 ^ (8 * w) else v).toNat
  if w = 1 then [byte u] else [byte (u / 256), byte (u % 256)]

/-- R13: the value range of a field type. -/
def inRange (w : Nat) (signed : Bool) (v : Int) : Bool :=
  if signed then decide (-(2 ^ (8 * w - 1)) ≤ v) && decide (v < 2 ^ (8 * w - 1))
  else decide (0 ≤ v) && decide (v < 2 ^ (8 * w))

end Sys2Proof.Machine
end

