-- ==== Sys2Proof/Machine/State.lean ====
section
/-! DEFINITION. The machine's state, the results of its transactions, its refusals, and its state after reset. -/

namespace Sys2Proof.Machine

/-! ## Results -/

/-- R83: the error and result kinds. -/
inductive ResultKind where
  | ok
  | unknownOpcode
  | unknownPacket
  | structuralLengthMismatch
  | fieldOutOfRange
  | checksumFailure
  | framingDesync
  | ioError
  | endOfStream
deriving DecidableEq, Repr

/-- R30: the result triple of VALIDATE. -/
structure ValidateResult where
  ok : Bool
  err : ResultKind
  field : Option Nat
deriving DecidableEq, Repr

/-- R283: a decoded value under its packet ID. -/
abbrev Pair := Byte × Int

/-- R31: the result of DECODE. -/
inductive DecodeResult where
  | record (pairs : List Pair)
  | error (err : ResultKind)
deriving DecidableEq, Repr

/-- R32: the output event of a STREAM_STEP. `none` is R32's `None`: no frame ended. -/
inductive StreamEvent where
  | none
  | frame (pairs : List Pair)
  | checksumFailure
  | framingDesync
  | ioError
  | endOfStream
deriving DecidableEq, Repr

/-- What a transaction gives back to the host. STREAM_RESET gives nothing (R312). -/
inductive Output where
  | validated (r : ValidateResult)
  | decoded (r : DecodeResult)
  | streamed (ev : StreamEvent)
deriving DecidableEq, Repr

/-! ## State -/

/-- R26: the stream unit's scan state. -/
inductive ScanState where
  | seekHeader
  | readLength
  | accumPayload
  | readChecksum
deriving DecidableEq, Repr

/-- The state of one block: its catalogs and parameters, the stream unit's parse state, and the two sides of the
transaction port. -/
structure State where
  /-- R23: configuration, fixed at instantiation; no transaction writes it. -/
  cfg : Config
  /-- R26. -/
  sState : ScanState
  /-- R27: N of the current frame. -/
  sLen : Byte
  /-- R28: the payload bytes accumulated so far; `s_count` is its length. -/
  sPayload : List Byte
  /-- R29: the running sum modulo 256. -/
  sSum : Byte
  /-- The model's own: the transactions the host has issued and the block has not run yet (log 2). -/
  port : List (List Byte)
  /-- The model's own: the results and events given so far, oldest first (R463; log 3). -/
  outputs : List Output
deriving DecidableEq, Repr

/-- The block has no fault: every error kind is a result value (R403, R422). Nothing raises one, so the type is empty. -/
inductive Fault where
deriving DecidableEq, Repr

/-- Why the machine has no meaning for what it is given. -/
inductive Refusal where
  /-- An instruction without a meaning. No arm of `exec` raises it. Safe. -/
  | notModelled (mnemonic : String)
  /-- The bytes at the port spell none of the four transactions; raised by `step` (R82, R422, I12). Safe: the host's
  transaction type cannot spell such a transaction. -/
  | notATransaction (why : PortError)
  /-- The catalogs are not well formed; raised by `State.instantiate` (R455, R422, I11). Safe: the spec refuses them too. -/
  | catalogNotAdmitted
deriving DecidableEq, Repr

/-! ## Reset -/

/-- R33, R450: the stream unit in its reset state, on the configuration `c`, with nothing issued and nothing given back. -/
def State.fresh (c : Config) : State where
  cfg := c
  sState := .seekHeader
  sLen := 0#8
  sPayload := []
  sSum := 0#8
  port := []
  outputs := []

/-- R454, R455: the block is instantiated on well-formed catalogs and refuses any others before the first transaction. -/
def State.instantiate (c : Config) : Host.Outcome State Fault Refusal :=
  if admitted c then .next (State.fresh c) else .refused .catalogNotAdmitted

/-- R450: the block right after instantiation, on the default parameters (R8). -/
def State.reset : State := State.fresh defaultConfig

end Sys2Proof.Machine
end

