-- ==== Sys2Proof/Machine/Flags.lean ====
section
/-! DEFINITION. The block has no flags (10_state.md R22). What it computes beside a value: the running sum and the checksum of a
frame (30_encoding.md R75, R76; 44_stream_decoder.md R302 to R307), and the numbers of the result kinds (30_encoding.md R83). -/

namespace Sys2Proof.Machine

/-- R75: the stream header value. -/
def streamHeader : Byte := 19#8

/-- R29: the sum modulo 256 after one more byte of the frame, taken as an unsigned byte. -/
def addToSum (sum b : Byte) : Byte := sum + b

/-- The sum modulo 256 of a list of bytes. -/
def byteSum (bs : List Byte) : Byte := bs.foldl addToSum 0#8

/-- R29: `(19 + N + sum(payload)) mod 256`. -/
def frameSum (n : Byte) (payload : List Byte) : Byte := streamHeader + n + byteSum payload

/-- R305: the frame passes when the sum of all its bytes, the checksum included, is 0 modulo 256. -/
def checksumPasses (sum checksum : Byte) : Bool := addToSum sum checksum == 0#8

/-- R76: the checksum byte of a well-formed frame. -/
def checksumByte (n : Byte) (payload : List Byte) : Byte := byte (256 - (frameSum n payload).toNat)

/-- R83: the number of a kind. -/
def ResultKind.code : ResultKind → Nat
  | .ok => 0
  | .unknownOpcode => 1
  | .unknownPacket => 2
  | .structuralLengthMismatch => 3
  | .fieldOutOfRange => 4
  | .checksumFailure => 5
  | .framingDesync => 6
  | .ioError => 7
  | .endOfStream => 8

/-- R400: the error kind a stream event reports, if it reports one. -/
def StreamEvent.kind : StreamEvent → ResultKind
  | .none => .ok
  | .frame _ => .ok
  | .checksumFailure => .checksumFailure
  | .framingDesync => .framingDesync
  | .ioError => .ioError
  | .endOfStream => .endOfStream

end Sys2Proof.Machine
end

