-- ==== Sys2Proof/Machine/Ops.lean ====
section
/-! DEFINITION. The named operations over the state: reading the next transaction, writing the payload buffer, clearing the
frame, giving a result or an event back, and raising an error. -/

namespace Sys2Proof.Machine

/-- The outcome of a transaction. -/
abbrev Outcome := Host.Outcome State Fault Refusal

/-! ## The transaction port -/

/-- The next transaction the host has issued, and the state with it taken from the port. `none` while none waits. -/
def takeTransaction (s : State) : Option (List Byte × State) :=
  match s.port with
  | [] => none
  | word :: rest => some (word, { s with port := rest })

/-- The state with one more transaction issued before those that wait. -/
def issueFirst (word : List Byte) (s : State) : State := { s with port := word :: s.port }

/-- R32, R403: a result or an event goes to the host, after those before it. -/
def giveOutput (o : Output) (s : State) : State := { s with outputs := s.outputs ++ [o] }

/-! ## Errors: a result, not a trap -/

/-- R403, R408: `raise E(info)` ends a VALIDATE with the error result `(false, E, info)`. It changes no state: there is no saved
register, no mode, no vector, and no return from it (R409). -/
def raiseValidate (e : ResultKind) (info : Option Nat) : ValidateResult := ⟨false, e, info⟩

/-- R403: `raise E()` ends a DECODE with `Error(E)` and no record. -/
def raiseDecode (e : ResultKind) : DecodeResult := .error e

/-- R30: success of VALIDATE, `(true, OK, none)`. -/
def validateOk : ValidateResult := ⟨true, .ok, none⟩

/-! ## The stream unit's registers -/

/-- R28: the number of payload bytes accumulated so far. -/
def sCount (s : State) : Nat := s.sPayload.length

/-- R12: `MemWrite(addr, 1, v)` writes byte `v` to `s_payload[addr]`. The spec uses it at `addr = s_count` only, where it appends. -/
def memWrite (addr : Nat) (v : Byte) (s : State) : State :=
  { s with sPayload := s.sPayload.take addr ++ v :: s.sPayload.drop (addr + 1) }

/-- R300: `s_state <- t`. -/
def goTo (t : ScanState) (s : State) : State := { s with sState := t }

/-- R300: `ClearFrame()` puts `s_len`, `s_payload` and `s_sum` back to their reset values. -/
def clearFrame (s : State) : State := { s with sLen := 0#8, sPayload := [], sSum := 0#8 }

/-- R33, R312, R452: the stream unit in its reset state. -/
def resetUnit (s : State) : State := goTo .seekHeader (clearFrame s)

/-- R29: one more byte of the frame is added to `s_sum`. -/
def addSum (b : Byte) (s : State) : State := { s with sSum := addToSum s.sSum b }

end Sys2Proof.Machine
end

