-- ==== Sys2Proof/Machine/Validator.lean ====
section
/-! DEFINITION. The Command Validator (41_command_validator.md): the operation every VALIDATE transaction runs. -/

namespace Sys2Proof.Machine

/-- R161, R166: the index of the first field, in list order and counted from `i`, whose value is outside its domain. -/
def firstFailing (buf : List Byte) : Nat → List Field → Option Nat
  | _, [] => none
  | i, f :: fs => if inDomain f (fieldValue f buf) then firstFailing buf (i + 1) fs else some i

/-- R165: the total length is the one the length rule asks for, `1 + DataBytes(length, buf)`. -/
def lengthFits (len : LengthRule) (buf : List Byte) : Bool :=
  match dataBytes len buf with
  | none => false
  | some k => buf.length == 1 + k

/-- R161 from the length check on. -/
def validateWith (spec : CommandSpec) (buf : List Byte) : ValidateResult :=
  if lengthFits spec.length buf then
    match firstFailing buf 0 spec.fields with
    | some i => raiseValidate .fieldOutOfRange (some i)
    | none => validateOk
  else raiseValidate .structuralLengthMismatch none

/-- R161: `Validate(buf)`, over the catalog of `c`. -/
def validateBuffer (c : Config) (buf : List Byte) : ValidateResult :=
  match buf with
  | [] => raiseValidate .unknownOpcode none
  | op :: _ =>
    match commandSpec c op with
    | none => raiseValidate .unknownOpcode none
    | some spec => validateWith spec buf

/-- R160, R169: the VALIDATE transaction. Its one effect is its result. -/
def runValidate (buf : List Byte) (s : State) : Outcome :=
  .next (giveOutput (.validated (validateBuffer s.cfg buf)) s)

end Sys2Proof.Machine
end

