-- ==== Sys2Proof/Machine/Commands.lean ====
section
/-! DEFINITION. The meanings of the 39 CMD rows: VALIDATE of a buffer that begins with the row's opcode (40_command_catalog.md
R101 to R139). What each opcode's length rule and fields are stands in the Command Catalog. None of them does anything to
the block beyond its result (R412). -/

namespace Sys2Proof.Machine

/-- RESET (R101). -/
def execReset (data : List Byte) (s : State) : Outcome := runValidate (7#8 :: data) s

/-- START (R102). -/
def execStart (data : List Byte) (s : State) : Outcome := runValidate (128#8 :: data) s

/-- BAUD (R103). -/
def execBaud (data : List Byte) (s : State) : Outcome := runValidate (129#8 :: data) s

/-- CONTROL (R104). -/
def execControl (data : List Byte) (s : State) : Outcome := runValidate (130#8 :: data) s

/-- SAFE (R105). -/
def execSafe (data : List Byte) (s : State) : Outcome := runValidate (131#8 :: data) s

/-- FULL (R106). -/
def execFull (data : List Byte) (s : State) : Outcome := runValidate (132#8 :: data) s

/-- POWER (R107). -/
def execPower (data : List Byte) (s : State) : Outcome := runValidate (133#8 :: data) s

/-- SPOT (R108). -/
def execSpot (data : List Byte) (s : State) : Outcome := runValidate (134#8 :: data) s

/-- CLEAN (R109). -/
def execClean (data : List Byte) (s : State) : Outcome := runValidate (135#8 :: data) s

/-- MAX (R110). -/
def execMax (data : List Byte) (s : State) : Outcome := runValidate (136#8 :: data) s

/-- DRIVE (R111). -/
def execDrive (data : List Byte) (s : State) : Outcome := runValidate (137#8 :: data) s

/-- MOTORS (R112). -/
def execMotors (data : List Byte) (s : State) : Outcome := runValidate (138#8 :: data) s

/-- LEDS (R113). -/
def execLeds (data : List Byte) (s : State) : Outcome := runValidate (139#8 :: data) s

/-- SONG (R114). -/
def execSong (data : List Byte) (s : State) : Outcome := runValidate (140#8 :: data) s

/-- PLAY (R115). -/
def execPlay (data : List Byte) (s : State) : Outcome := runValidate (141#8 :: data) s

/-- SENSORS (R116). -/
def execSensors (data : List Byte) (s : State) : Outcome := runValidate (142#8 :: data) s

/-- SEEK_DOCK (R117). -/
def execSeekDock (data : List Byte) (s : State) : Outcome := runValidate (143#8 :: data) s

/-- PWM_MOTORS (R118). -/
def execPwmMotors (data : List Byte) (s : State) : Outcome := runValidate (144#8 :: data) s

/-- DRIVE_DIRECT (R119). -/
def execDriveDirect (data : List Byte) (s : State) : Outcome := runValidate (145#8 :: data) s

/-- DRIVE_PWM (R120). -/
def execDrivePwm (data : List Byte) (s : State) : Outcome := runValidate (146#8 :: data) s

/-- DIGITAL_OUTPUTS (R121). -/
def execDigitalOutputs (data : List Byte) (s : State) : Outcome := runValidate (147#8 :: data) s

/-- STREAM (R122). -/
def execStream (data : List Byte) (s : State) : Outcome := runValidate (148#8 :: data) s

/-- QUERY_LIST (R123). -/
def execQueryList (data : List Byte) (s : State) : Outcome := runValidate (149#8 :: data) s

/-- PAUSE_RESUME_STREAM (R124). -/
def execPauseResumeStream (data : List Byte) (s : State) : Outcome := runValidate (150#8 :: data) s

/-- SEND_IR (R125). -/
def execSendIr (data : List Byte) (s : State) : Outcome := runValidate (151#8 :: data) s

/-- SCRIPT (R126). -/
def execScript (data : List Byte) (s : State) : Outcome := runValidate (152#8 :: data) s

/-- PLAY_SCRIPT (R127). -/
def execPlayScript (data : List Byte) (s : State) : Outcome := runValidate (153#8 :: data) s

/-- SHOW_SCRIPT (R128). -/
def execShowScript (data : List Byte) (s : State) : Outcome := runValidate (154#8 :: data) s

/-- WAIT_TIME (R129). -/
def execWaitTime (data : List Byte) (s : State) : Outcome := runValidate (155#8 :: data) s

/-- WAIT_DISTANCE (R130). -/
def execWaitDistance (data : List Byte) (s : State) : Outcome := runValidate (156#8 :: data) s

/-- WAIT_ANGLE (R131). -/
def execWaitAngle (data : List Byte) (s : State) : Outcome := runValidate (157#8 :: data) s

/-- WAIT_EVENT (R132). -/
def execWaitEvent (data : List Byte) (s : State) : Outcome := runValidate (158#8 :: data) s

/-- SCHEDULING_LEDS (R133). -/
def execSchedulingLeds (data : List Byte) (s : State) : Outcome := runValidate (162#8 :: data) s

/-- DIGIT_LEDS_RAW (R134). -/
def execDigitLedsRaw (data : List Byte) (s : State) : Outcome := runValidate (163#8 :: data) s

/-- DIGIT_LEDS_ASCII (R135). -/
def execDigitLedsAscii (data : List Byte) (s : State) : Outcome := runValidate (164#8 :: data) s

/-- BUTTONS (R136). -/
def execButtons (data : List Byte) (s : State) : Outcome := runValidate (165#8 :: data) s

/-- SCHEDULE (R137). -/
def execSchedule (data : List Byte) (s : State) : Outcome := runValidate (167#8 :: data) s

/-- SET_DAY_TIME (R138). -/
def execSetDayTime (data : List Byte) (s : State) : Outcome := runValidate (168#8 :: data) s

/-- STOP (R139). -/
def execStop (data : List Byte) (s : State) : Outcome := runValidate (173#8 :: data) s

end Sys2Proof.Machine
end

