-- ==== Sys2Proof/Machine/GroupDecoder.lean ====
section
/-! DEFINITION. The Packet Group Decoder (43_group_decoder.md): the operation every DECODE transaction runs. -/

namespace Sys2Proof.Machine

/-- R281, R282: the pairs of the members, the first at offset `pos`, each after the one before it with no padding. -/
def memberPairs (c : Config) (buf : List Byte) : Nat → List Byte → List Pair
  | _, [] => []
  | pos, m :: ms =>
    (m, patternValue (leafWidth c m) (leafSigned c m) (memRead buf pos (leafWidth c m)))
      :: memberPairs c buf (pos + leafWidth c m) ms

/-- R281 from the length check on. -/
def decodeMembers (c : Config) (members : List Byte) (buf : List Byte) : DecodeResult :=
  if buf.length = totalWidth c members then .record (memberPairs c buf 0 members)
  else raiseDecode .structuralLengthMismatch

/-- R281: `Decode(id, buf)`, over the catalog of `c`. -/
def decodeResponse (c : Config) (id : Byte) (buf : List Byte) : DecodeResult :=
  match packetSpec c id with
  | none => raiseDecode .unknownPacket
  | some spec => decodeMembers c (membersOf id spec) buf

/-- R280, R288: the DECODE transaction. Its one effect is its result. -/
def runDecode (id : Byte) (buf : List Byte) (s : State) : Outcome :=
  .next (giveOutput (.decoded (decodeResponse s.cfg id buf)) s)

/-- R287: `EncodeRecord(id, values)`, `Encode` over the members in order: a test aid, not an operation of the block. -/
def encodeRecord (c : Config) (members : List Byte) (values : List Int) : List Byte :=
  (members.zip values).flatMap fun p => encodeValue (leafWidth c p.1) (leafSigned c p.1) p.2

end Sys2Proof.Machine
end

