-- ==== Sys2Proof/Machine/Packets.lean ====
section
/-! DEFINITION. The meanings of the 63 PKT rows: DECODE of the row's packet ID (42_packet_catalog.md R202 to R264). The width,
signedness and members of each stand in the Packet Catalog. -/

namespace Sys2Proof.Machine

/-- PKT_BUMPS_WHEEL_DROPS (R202). -/
def execPktBumpsWheelDrops (buf : List Byte) (s : State) : Outcome := runDecode 7#8 buf s

/-- PKT_WALL (R203). -/
def execPktWall (buf : List Byte) (s : State) : Outcome := runDecode 8#8 buf s

/-- PKT_CLIFF_LEFT (R204). -/
def execPktCliffLeft (buf : List Byte) (s : State) : Outcome := runDecode 9#8 buf s

/-- PKT_CLIFF_FRONT_LEFT (R205). -/
def execPktCliffFrontLeft (buf : List Byte) (s : State) : Outcome := runDecode 10#8 buf s

/-- PKT_CLIFF_FRONT_RIGHT (R206). -/
def execPktCliffFrontRight (buf : List Byte) (s : State) : Outcome := runDecode 11#8 buf s

/-- PKT_CLIFF_RIGHT (R207). -/
def execPktCliffRight (buf : List Byte) (s : State) : Outcome := runDecode 12#8 buf s

/-- PKT_VIRTUAL_WALL (R208). -/
def execPktVirtualWall (buf : List Byte) (s : State) : Outcome := runDecode 13#8 buf s

/-- PKT_WHEEL_OVERCURRENTS (R209). -/
def execPktWheelOvercurrents (buf : List Byte) (s : State) : Outcome := runDecode 14#8 buf s

/-- PKT_DIRT_DETECT (R210). -/
def execPktDirtDetect (buf : List Byte) (s : State) : Outcome := runDecode 15#8 buf s

/-- PKT_UNUSED_16 (R211). -/
def execPktUnused16 (buf : List Byte) (s : State) : Outcome := runDecode 16#8 buf s

/-- PKT_IR_OPCODE_OMNI (R212). -/
def execPktIrOpcodeOmni (buf : List Byte) (s : State) : Outcome := runDecode 17#8 buf s

/-- PKT_BUTTONS (R213). -/
def execPktButtons (buf : List Byte) (s : State) : Outcome := runDecode 18#8 buf s

/-- PKT_DISTANCE (R214). -/
def execPktDistance (buf : List Byte) (s : State) : Outcome := runDecode 19#8 buf s

/-- PKT_ANGLE (R215). -/
def execPktAngle (buf : List Byte) (s : State) : Outcome := runDecode 20#8 buf s

/-- PKT_CHARGING_STATE (R216). -/
def execPktChargingState (buf : List Byte) (s : State) : Outcome := runDecode 21#8 buf s

/-- PKT_VOLTAGE (R217). -/
def execPktVoltage (buf : List Byte) (s : State) : Outcome := runDecode 22#8 buf s

/-- PKT_CURRENT (R218). -/
def execPktCurrent (buf : List Byte) (s : State) : Outcome := runDecode 23#8 buf s

/-- PKT_TEMPERATURE (R219). -/
def execPktTemperature (buf : List Byte) (s : State) : Outcome := runDecode 24#8 buf s

/-- PKT_BATTERY_CHARGE (R220). -/
def execPktBatteryCharge (buf : List Byte) (s : State) : Outcome := runDecode 25#8 buf s

/-- PKT_BATTERY_CAPACITY (R221). -/
def execPktBatteryCapacity (buf : List Byte) (s : State) : Outcome := runDecode 26#8 buf s

/-- PKT_WALL_SIGNAL (R222). -/
def execPktWallSignal (buf : List Byte) (s : State) : Outcome := runDecode 27#8 buf s

/-- PKT_CLIFF_LEFT_SIGNAL (R223). -/
def execPktCliffLeftSignal (buf : List Byte) (s : State) : Outcome := runDecode 28#8 buf s

/-- PKT_CLIFF_FRONT_LEFT_SIGNAL (R224). -/
def execPktCliffFrontLeftSignal (buf : List Byte) (s : State) : Outcome := runDecode 29#8 buf s

/-- PKT_CLIFF_FRONT_RIGHT_SIGNAL (R225). -/
def execPktCliffFrontRightSignal (buf : List Byte) (s : State) : Outcome := runDecode 30#8 buf s

/-- PKT_CLIFF_RIGHT_SIGNAL (R226). -/
def execPktCliffRightSignal (buf : List Byte) (s : State) : Outcome := runDecode 31#8 buf s

/-- PKT_UNUSED_32 (R227). -/
def execPktUnused32 (buf : List Byte) (s : State) : Outcome := runDecode 32#8 buf s

/-- PKT_UNUSED_33 (R228). -/
def execPktUnused33 (buf : List Byte) (s : State) : Outcome := runDecode 33#8 buf s

/-- PKT_CHARGING_SOURCES_AVAILABLE (R229). -/
def execPktChargingSourcesAvailable (buf : List Byte) (s : State) : Outcome := runDecode 34#8 buf s

/-- PKT_OI_MODE (R230). -/
def execPktOiMode (buf : List Byte) (s : State) : Outcome := runDecode 35#8 buf s

/-- PKT_SONG_NUMBER (R231). -/
def execPktSongNumber (buf : List Byte) (s : State) : Outcome := runDecode 36#8 buf s

/-- PKT_SONG_PLAYING (R232). -/
def execPktSongPlaying (buf : List Byte) (s : State) : Outcome := runDecode 37#8 buf s

/-- PKT_NUMBER_OF_STREAM_PACKETS (R233). -/
def execPktNumberOfStreamPackets (buf : List Byte) (s : State) : Outcome := runDecode 38#8 buf s

/-- PKT_REQUESTED_VELOCITY (R234). -/
def execPktRequestedVelocity (buf : List Byte) (s : State) : Outcome := runDecode 39#8 buf s

/-- PKT_REQUESTED_RADIUS (R235). -/
def execPktRequestedRadius (buf : List Byte) (s : State) : Outcome := runDecode 40#8 buf s

/-- PKT_REQUESTED_RIGHT_VELOCITY (R236). -/
def execPktRequestedRightVelocity (buf : List Byte) (s : State) : Outcome := runDecode 41#8 buf s

/-- PKT_REQUESTED_LEFT_VELOCITY (R237). -/
def execPktRequestedLeftVelocity (buf : List Byte) (s : State) : Outcome := runDecode 42#8 buf s

/-- PKT_LEFT_ENCODER_COUNTS (R238). -/
def execPktLeftEncoderCounts (buf : List Byte) (s : State) : Outcome := runDecode 43#8 buf s

/-- PKT_RIGHT_ENCODER_COUNTS (R239). -/
def execPktRightEncoderCounts (buf : List Byte) (s : State) : Outcome := runDecode 44#8 buf s

/-- PKT_LIGHT_BUMPER (R240). -/
def execPktLightBumper (buf : List Byte) (s : State) : Outcome := runDecode 45#8 buf s

/-- PKT_LIGHT_BUMP_LEFT_SIGNAL (R241). -/
def execPktLightBumpLeftSignal (buf : List Byte) (s : State) : Outcome := runDecode 46#8 buf s

/-- PKT_LIGHT_BUMP_FRONT_LEFT_SIGNAL (R242). -/
def execPktLightBumpFrontLeftSignal (buf : List Byte) (s : State) : Outcome := runDecode 47#8 buf s

/-- PKT_LIGHT_BUMP_CENTER_LEFT_SIGNAL (R243). -/
def execPktLightBumpCenterLeftSignal (buf : List Byte) (s : State) : Outcome := runDecode 48#8 buf s

/-- PKT_LIGHT_BUMP_CENTER_RIGHT_SIGNAL (R244). -/
def execPktLightBumpCenterRightSignal (buf : List Byte) (s : State) : Outcome := runDecode 49#8 buf s

/-- PKT_LIGHT_BUMP_FRONT_RIGHT_SIGNAL (R245). -/
def execPktLightBumpFrontRightSignal (buf : List Byte) (s : State) : Outcome := runDecode 50#8 buf s

/-- PKT_LIGHT_BUMP_RIGHT_SIGNAL (R246). -/
def execPktLightBumpRightSignal (buf : List Byte) (s : State) : Outcome := runDecode 51#8 buf s

/-- PKT_IR_OPCODE_LEFT (R247). -/
def execPktIrOpcodeLeft (buf : List Byte) (s : State) : Outcome := runDecode 52#8 buf s

/-- PKT_IR_OPCODE_RIGHT (R248). -/
def execPktIrOpcodeRight (buf : List Byte) (s : State) : Outcome := runDecode 53#8 buf s

/-- PKT_LEFT_MOTOR_CURRENT (R249). -/
def execPktLeftMotorCurrent (buf : List Byte) (s : State) : Outcome := runDecode 54#8 buf s

/-- PKT_RIGHT_MOTOR_CURRENT (R250). -/
def execPktRightMotorCurrent (buf : List Byte) (s : State) : Outcome := runDecode 55#8 buf s

/-- PKT_MAIN_BRUSH_MOTOR_CURRENT (R251). -/
def execPktMainBrushMotorCurrent (buf : List Byte) (s : State) : Outcome := runDecode 56#8 buf s

/-- PKT_SIDE_BRUSH_MOTOR_CURRENT (R252). -/
def execPktSideBrushMotorCurrent (buf : List Byte) (s : State) : Outcome := runDecode 57#8 buf s

/-- PKT_STASIS (R253). -/
def execPktStasis (buf : List Byte) (s : State) : Outcome := runDecode 58#8 buf s

/-- PKT_GROUP_0 (R254). -/
def execPktGroup0 (buf : List Byte) (s : State) : Outcome := runDecode 0#8 buf s

/-- PKT_GROUP_1 (R255). -/
def execPktGroup1 (buf : List Byte) (s : State) : Outcome := runDecode 1#8 buf s

/-- PKT_GROUP_2 (R256). -/
def execPktGroup2 (buf : List Byte) (s : State) : Outcome := runDecode 2#8 buf s

/-- PKT_GROUP_3 (R257). -/
def execPktGroup3 (buf : List Byte) (s : State) : Outcome := runDecode 3#8 buf s

/-- PKT_GROUP_4 (R258). -/
def execPktGroup4 (buf : List Byte) (s : State) : Outcome := runDecode 4#8 buf s

/-- PKT_GROUP_5 (R259). -/
def execPktGroup5 (buf : List Byte) (s : State) : Outcome := runDecode 5#8 buf s

/-- PKT_GROUP_6 (R260). -/
def execPktGroup6 (buf : List Byte) (s : State) : Outcome := runDecode 6#8 buf s

/-- PKT_GROUP_100 (R261). -/
def execPktGroup100 (buf : List Byte) (s : State) : Outcome := runDecode 100#8 buf s

/-- PKT_GROUP_101 (R262). -/
def execPktGroup101 (buf : List Byte) (s : State) : Outcome := runDecode 101#8 buf s

/-- PKT_GROUP_106 (R263). -/
def execPktGroup106 (buf : List Byte) (s : State) : Outcome := runDecode 106#8 buf s

/-- PKT_GROUP_107 (R264). -/
def execPktGroup107 (buf : List Byte) (s : State) : Outcome := runDecode 107#8 buf s

end Sys2Proof.Machine
end

