-- ==== Sys2Proof/Machine/StreamDecoder.lean ====
section
/-! DEFINITION. The Stream Frame Decoder (44_stream_decoder.md): the demultiplexer, one step of the frame state machine, and
the reset of the unit. -/

namespace Sys2Proof.Machine

/-! ## Demultiplexing -/

/-- R309, R311: whether an ID with this entry may head a record of a stream payload. -/
def streamable (c : Config) : PacketSpec → Bool
  | .leaf _ _ _ => true
  | .group _ => c.streamGroupPolicy == .expandGroups

/-- R309: the leaves of the record that `id` heads; none for an unknown ID, and for a group under LEAF_ONLY. -/
def recordMembers (c : Config) (id : Byte) : Option (List Byte) :=
  match packetSpec c id with
  | none => none
  | some spec => if streamable c spec then some (membersOf id spec) else none

/-- R310, R311: `FieldPairs(id, d)`, the pairs that DECODE gives for the same ID and bytes. -/
def fieldPairs (c : Config) (members : List Byte) (d : List Byte) : List Pair := memberPairs c d 0 members

/-- R309: the loop of `Demux`, one record a round. `fuel` bounds the rounds; a record takes at least its ID byte, so as many
rounds as there are bytes are enough (R462). -/
def demuxLoop (c : Config) : Nat → List Byte → Option (List Pair)
  | _, [] => some []
  | 0, _ :: _ => none
  | fuel + 1, id :: rest =>
    match recordMembers c id with
    | none => none
    | some members =>
      if rest.length < totalWidth c members then none
      else
        (demuxLoop c fuel (rest.drop (totalWidth c members))).map
          (fieldPairs c members (rest.take (totalWidth c members)) ++ ·)

/-- R309: `Demux(P)`; `none` is DESYNC. -/
def demux (c : Config) (payload : List Byte) : Option (List Pair) := demuxLoop c payload.length payload

/-! ## One step -/

/-- R305, R306: the event of the checksum step. The checksum is checked first. -/
def frameOutcome (c : Config) (sum : Byte) (payload : List Byte) (checksum : Byte) : StreamEvent :=
  if checksumPasses sum checksum then
    match demux c payload with
    | none => .framingDesync
    | some pairs => .frame pairs
  else .checksumFailure

/-- R302: SEEK_HEADER. A header starts a frame; any other byte is discarded. -/
def seekHeaderStep (b : Byte) (s : State) : State :=
  if b = streamHeader then goTo .readLength { s with sSum := streamHeader, sPayload := [] } else s

/-- R303, R315: READ_LENGTH. -/
def readLengthStep (b : Byte) (s : State) : State :=
  goTo (if b = 0#8 then .readChecksum else .accumPayload) (addSum b { s with sLen := b })

/-- R304: where the unit goes once a payload byte is appended. -/
def afterAppend (s : State) : State := if sCount s = s.sLen.toNat then goTo .readChecksum s else s

/-- R304: ACCUM_PAYLOAD. -/
def accumPayloadStep (b : Byte) (s : State) : State := afterAppend (addSum b (memWrite (sCount s) b s))

/-- R300: the step on `Byte(b)`. -/
def byteStep (b : Byte) (s : State) : State :=
  match s.sState with
  | .seekHeader => giveOutput (.streamed .none) (seekHeaderStep b s)
  | .readLength => giveOutput (.streamed .none) (readLengthStep b s)
  | .accumPayload => giveOutput (.streamed .none) (accumPayloadStep b s)
  | .readChecksum => giveOutput (.streamed (frameOutcome s.cfg s.sSum s.sPayload b)) (resetUnit s)

/-- R308: an error event of the source is passed on, and the partial frame is discarded. -/
def sourceErrorStep (ev : StreamEvent) (s : State) : State := giveOutput (.streamed ev) (resetUnit s)

/-- R300: the STREAM_STEP transaction on one source event. -/
def runStreamStep (ev : SourceEvent) (s : State) : Outcome :=
  match ev with
  | .byte b => .next (byteStep b s)
  | .ioError => .next (sourceErrorStep .ioError s)
  | .endOfStream => .next (sourceErrorStep .endOfStream s)

/-- R312: the STREAM_RESET transaction. It gives nothing back. -/
def runStreamReset (s : State) : Outcome := .next (resetUnit s)

end Sys2Proof.Machine
end

