-- ==== Sys2Proof/Machine/Transactions.lean ====
section
/-! DEFINITION. The meanings of the four OP rows (30_encoding.md R82): the transactions themselves. -/

namespace Sys2Proof.Machine

/-- VALIDATE of any buffer (R160). -/
def execValidate (buf : List Byte) (s : State) : Outcome := runValidate buf s

/-- DECODE of any ID (R280). -/
def execDecode (id : Byte) (buf : List Byte) (s : State) : Outcome := runDecode id buf s

/-- STREAM_STEP on one source event (R300). -/
def execStreamStep (ev : SourceEvent) (s : State) : Outcome := runStreamStep ev s

/-- STREAM_RESET (R312). -/
def execStreamReset (s : State) : Outcome := runStreamReset s

end Sys2Proof.Machine
end

