-- ==== Sys2Proof/Machine/Dispatch.lean ====
section
/-! DEFINITION. One arm per constructor of Instr, each a direct call of its meaning. -/

namespace Sys2Proof.Machine

def exec (i : Instr) (s : State) : Host.Outcome State Fault Refusal :=
  match i with
  | .validate buf => Sys2Proof.Machine.execValidate buf s
  | .decode id buf => Sys2Proof.Machine.execDecode id buf s
  | .streamStep ev => Sys2Proof.Machine.execStreamStep ev s
  | .streamReset => Sys2Proof.Machine.execStreamReset s
  | .reset data => Sys2Proof.Machine.execReset data s
  | .start data => Sys2Proof.Machine.execStart data s
  | .baud data => Sys2Proof.Machine.execBaud data s
  | .control data => Sys2Proof.Machine.execControl data s
  | .safe data => Sys2Proof.Machine.execSafe data s
  | .full data => Sys2Proof.Machine.execFull data s
  | .power data => Sys2Proof.Machine.execPower data s
  | .spot data => Sys2Proof.Machine.execSpot data s
  | .clean data => Sys2Proof.Machine.execClean data s
  | .max data => Sys2Proof.Machine.execMax data s
  | .drive data => Sys2Proof.Machine.execDrive data s
  | .motors data => Sys2Proof.Machine.execMotors data s
  | .leds data => Sys2Proof.Machine.execLeds data s
  | .song data => Sys2Proof.Machine.execSong data s
  | .play data => Sys2Proof.Machine.execPlay data s
  | .sensors data => Sys2Proof.Machine.execSensors data s
  | .seekDock data => Sys2Proof.Machine.execSeekDock data s
  | .pwmMotors data => Sys2Proof.Machine.execPwmMotors data s
  | .driveDirect data => Sys2Proof.Machine.execDriveDirect data s
  | .drivePwm data => Sys2Proof.Machine.execDrivePwm data s
  | .digitalOutputs data => Sys2Proof.Machine.execDigitalOutputs data s
  | .stream data => Sys2Proof.Machine.execStream data s
  | .queryList data => Sys2Proof.Machine.execQueryList data s
  | .pauseResumeStream data => Sys2Proof.Machine.execPauseResumeStream data s
  | .sendIr data => Sys2Proof.Machine.execSendIr data s
  | .script data => Sys2Proof.Machine.execScript data s
  | .playScript data => Sys2Proof.Machine.execPlayScript data s
  | .showScript data => Sys2Proof.Machine.execShowScript data s
  | .waitTime data => Sys2Proof.Machine.execWaitTime data s
  | .waitDistance data => Sys2Proof.Machine.execWaitDistance data s
  | .waitAngle data => Sys2Proof.Machine.execWaitAngle data s
  | .waitEvent data => Sys2Proof.Machine.execWaitEvent data s
  | .schedulingLeds data => Sys2Proof.Machine.execSchedulingLeds data s
  | .digitLedsRaw data => Sys2Proof.Machine.execDigitLedsRaw data s
  | .digitLedsAscii data => Sys2Proof.Machine.execDigitLedsAscii data s
  | .buttons data => Sys2Proof.Machine.execButtons data s
  | .schedule data => Sys2Proof.Machine.execSchedule data s
  | .setDayTime data => Sys2Proof.Machine.execSetDayTime data s
  | .stop data => Sys2Proof.Machine.execStop data s
  | .pktBumpsWheelDrops buf => Sys2Proof.Machine.execPktBumpsWheelDrops buf s
  | .pktWall buf => Sys2Proof.Machine.execPktWall buf s
  | .pktCliffLeft buf => Sys2Proof.Machine.execPktCliffLeft buf s
  | .pktCliffFrontLeft buf => Sys2Proof.Machine.execPktCliffFrontLeft buf s
  | .pktCliffFrontRight buf => Sys2Proof.Machine.execPktCliffFrontRight buf s
  | .pktCliffRight buf => Sys2Proof.Machine.execPktCliffRight buf s
  | .pktVirtualWall buf => Sys2Proof.Machine.execPktVirtualWall buf s
  | .pktWheelOvercurrents buf => Sys2Proof.Machine.execPktWheelOvercurrents buf s
  | .pktDirtDetect buf => Sys2Proof.Machine.execPktDirtDetect buf s
  | .pktUnused16 buf => Sys2Proof.Machine.execPktUnused16 buf s
  | .pktIrOpcodeOmni buf => Sys2Proof.Machine.execPktIrOpcodeOmni buf s
  | .pktButtons buf => Sys2Proof.Machine.execPktButtons buf s
  | .pktDistance buf => Sys2Proof.Machine.execPktDistance buf s
  | .pktAngle buf => Sys2Proof.Machine.execPktAngle buf s
  | .pktChargingState buf => Sys2Proof.Machine.execPktChargingState buf s
  | .pktVoltage buf => Sys2Proof.Machine.execPktVoltage buf s
  | .pktCurrent buf => Sys2Proof.Machine.execPktCurrent buf s
  | .pktTemperature buf => Sys2Proof.Machine.execPktTemperature buf s
  | .pktBatteryCharge buf => Sys2Proof.Machine.execPktBatteryCharge buf s
  | .pktBatteryCapacity buf => Sys2Proof.Machine.execPktBatteryCapacity buf s
  | .pktWallSignal buf => Sys2Proof.Machine.execPktWallSignal buf s
  | .pktCliffLeftSignal buf => Sys2Proof.Machine.execPktCliffLeftSignal buf s
  | .pktCliffFrontLeftSignal buf => Sys2Proof.Machine.execPktCliffFrontLeftSignal buf s
  | .pktCliffFrontRightSignal buf => Sys2Proof.Machine.execPktCliffFrontRightSignal buf s
  | .pktCliffRightSignal buf => Sys2Proof.Machine.execPktCliffRightSignal buf s
  | .pktUnused32 buf => Sys2Proof.Machine.execPktUnused32 buf s
  | .pktUnused33 buf => Sys2Proof.Machine.execPktUnused33 buf s
  | .pktChargingSourcesAvailable buf => Sys2Proof.Machine.execPktChargingSourcesAvailable buf s
  | .pktOiMode buf => Sys2Proof.Machine.execPktOiMode buf s
  | .pktSongNumber buf => Sys2Proof.Machine.execPktSongNumber buf s
  | .pktSongPlaying buf => Sys2Proof.Machine.execPktSongPlaying buf s
  | .pktNumberOfStreamPackets buf => Sys2Proof.Machine.execPktNumberOfStreamPackets buf s
  | .pktRequestedVelocity buf => Sys2Proof.Machine.execPktRequestedVelocity buf s
  | .pktRequestedRadius buf => Sys2Proof.Machine.execPktRequestedRadius buf s
  | .pktRequestedRightVelocity buf => Sys2Proof.Machine.execPktRequestedRightVelocity buf s
  | .pktRequestedLeftVelocity buf => Sys2Proof.Machine.execPktRequestedLeftVelocity buf s
  | .pktLeftEncoderCounts buf => Sys2Proof.Machine.execPktLeftEncoderCounts buf s
  | .pktRightEncoderCounts buf => Sys2Proof.Machine.execPktRightEncoderCounts buf s
  | .pktLightBumper buf => Sys2Proof.Machine.execPktLightBumper buf s
  | .pktLightBumpLeftSignal buf => Sys2Proof.Machine.execPktLightBumpLeftSignal buf s
  | .pktLightBumpFrontLeftSignal buf => Sys2Proof.Machine.execPktLightBumpFrontLeftSignal buf s
  | .pktLightBumpCenterLeftSignal buf => Sys2Proof.Machine.execPktLightBumpCenterLeftSignal buf s
  | .pktLightBumpCenterRightSignal buf => Sys2Proof.Machine.execPktLightBumpCenterRightSignal buf s
  | .pktLightBumpFrontRightSignal buf => Sys2Proof.Machine.execPktLightBumpFrontRightSignal buf s
  | .pktLightBumpRightSignal buf => Sys2Proof.Machine.execPktLightBumpRightSignal buf s
  | .pktIrOpcodeLeft buf => Sys2Proof.Machine.execPktIrOpcodeLeft buf s
  | .pktIrOpcodeRight buf => Sys2Proof.Machine.execPktIrOpcodeRight buf s
  | .pktLeftMotorCurrent buf => Sys2Proof.Machine.execPktLeftMotorCurrent buf s
  | .pktRightMotorCurrent buf => Sys2Proof.Machine.execPktRightMotorCurrent buf s
  | .pktMainBrushMotorCurrent buf => Sys2Proof.Machine.execPktMainBrushMotorCurrent buf s
  | .pktSideBrushMotorCurrent buf => Sys2Proof.Machine.execPktSideBrushMotorCurrent buf s
  | .pktStasis buf => Sys2Proof.Machine.execPktStasis buf s
  | .pktGroup0 buf => Sys2Proof.Machine.execPktGroup0 buf s
  | .pktGroup1 buf => Sys2Proof.Machine.execPktGroup1 buf s
  | .pktGroup2 buf => Sys2Proof.Machine.execPktGroup2 buf s
  | .pktGroup3 buf => Sys2Proof.Machine.execPktGroup3 buf s
  | .pktGroup4 buf => Sys2Proof.Machine.execPktGroup4 buf s
  | .pktGroup5 buf => Sys2Proof.Machine.execPktGroup5 buf s
  | .pktGroup6 buf => Sys2Proof.Machine.execPktGroup6 buf s
  | .pktGroup100 buf => Sys2Proof.Machine.execPktGroup100 buf s
  | .pktGroup101 buf => Sys2Proof.Machine.execPktGroup101 buf s
  | .pktGroup106 buf => Sys2Proof.Machine.execPktGroup106 buf s
  | .pktGroup107 buf => Sys2Proof.Machine.execPktGroup107 buf s

end Sys2Proof.Machine
end

