-- ==== Sys2Proof/Machine/Step.lean ====
section
/-! DEFINITION. One step of the machine: the block runs the next transaction the host has issued. -/

namespace Sys2Proof.Machine

/-- R58: one step is one whole transaction. With none issued the block waits as it is (R421, R422, I5; log 2). Bytes that spell
no transaction are refused (R82, I12). -/
def step (s : State) : Host.Outcome State Fault Refusal :=
  match takeTransaction s with
  | none => .next s
  | some (word, rest) =>
    match decode word with
    | .error why => .refused (.notATransaction why)
    | .ok i => exec i rest

/-- The host issues the transaction that a word of the opcode table stands for, as the next to run (log 5, log 7). -/
def State.withFetchWord (s : State) (nbits w : Nat) : State := issueFirst (tableTransaction nbits w) s

end Sys2Proof.Machine
end

