-- ==== Sys2Proof/Safety.lean ====
section
/-! DEFINITION. The terms the statements use: the stream unit's invariant, runs of several transactions, what a transaction
answers, the values of bytes written out, and the offsets of the groups as the spec lists them. -/

namespace Sys2Proof.Machine

/-! ## The stream unit -/

/-- The unit's registers at their reset values (R33). -/
abbrev UnitReset (s : State) : Prop := s.sState = .seekHeader ∧ s.sLen = 0#8 ∧ s.sPayload = [] ∧ s.sSum = 0#8

/-- The sum of the bytes as numbers, with no bound. -/
def natSum (bs : List Byte) : Nat := (bs.map BitVec.toNat).sum

/-- R29: `s_sum = (19 + s_len + sum(s_payload)) mod 256`. -/
abbrev SumHolds (s : State) : Prop := s.sSum.toNat = (19 + s.sLen.toNat + natSum s.sPayload) % 256

/-- R453: the states in which the unit can be found between steps. -/
abbrev FrameInv (s : State) : Prop :=
  UnitReset s
  ∨ (s.sState = .readLength ∧ s.sSum = 19#8 ∧ s.sPayload = [])
  ∨ (s.sState = .accumPayload ∧ s.sPayload.length < s.sLen.toNat ∧ SumHolds s)
  ∨ (s.sState = .readChecksum ∧ s.sPayload.length = s.sLen.toNat ∧ SumHolds s)

/-- R76, R307: the checksum of a frame with payload `p`, as a number. -/
def goodChecksum (p : List Byte) : Nat := (256 - (19 + p.length + natSum p) % 256) % 256

/-- R75: the bytes of a frame with header 19. -/
def frameBytes (p : List Byte) (checksum : Byte) : List Byte := 19#8 :: byte p.length :: (p ++ [checksum])

/-- R81: one record of a stream payload, its packet ID and its data bytes. -/
abbrev Record := Byte × List Byte

/-- R309: the pairs of a record that may stand in a stream payload, when its data bytes are as many as its ID's total width. -/
def recordPairs (c : Config) (r : Record) : Option (List Pair) :=
  match recordMembers c r.1 with
  | none => none
  | some members => if r.2.length = totalWidth c members then some (fieldPairs c members r.2) else none

/-! ## Runs -/

/-- The host's transactions one after another (R463). -/
def runAll : List Instr → State → Outcome
  | [], s => .next s
  | i :: is, s =>
    match exec i s with
    | .next s' => runAll is s'
    | .fault r => .fault r
    | .refused r => .refused r

/-- R14: one `STREAM b` for each byte. -/
def feed (bs : List Byte) : List Instr := bs.map fun b => .streamStep (.byte b)

/-- The state with some stream events given after those before. -/
def withEvents (evs : List StreamEvent) (s : State) : State := { s with outputs := s.outputs ++ evs.map .streamed }

/-- The event None `n` times and then the event `last`. -/
def quietThen (n : Nat) (last : StreamEvent) : List StreamEvent := List.replicate n .none ++ [last]

/-! ## Answers -/

/-- The transaction answers `r` and changes nothing but the list of results. -/
abbrev answersValidate (i : Instr) (s : State) (r : ValidateResult) : Prop :=
  exec i s = .next { s with outputs := s.outputs ++ [.validated r] }

/-- The transaction answers `r` and changes nothing but the list of results. -/
abbrev answersDecode (i : Instr) (s : State) (r : DecodeResult) : Prop :=
  exec i s = .next { s with outputs := s.outputs ++ [.decoded r] }

/-- The STREAM_STEP gives the event `ev`, and the state beside the list of results becomes that of `t`. -/
abbrev answersEvent (ev : SourceEvent) (s t : State) (out : StreamEvent) : Prop :=
  exec (.streamStep ev) s = .next { t with outputs := s.outputs ++ [.streamed out] }

/-- Accepted. -/
def accepted : ValidateResult := ⟨true, .ok, none⟩

/-- Rejected for its length. -/
def wrongLength : ValidateResult := ⟨false, .structuralLengthMismatch, none⟩

/-- Rejected for field `i`. -/
def outOfRange (i : Nat) : ValidateResult := ⟨false, .fieldOutOfRange, some i⟩

/-- Rejected for its opcode. -/
def unknownOpcode : ValidateResult := ⟨false, .unknownOpcode, none⟩

/-- The result of a command checked by its length alone. -/
def byLength (fits : Prop) [Decidable fits] : ValidateResult := if fits then accepted else wrongLength

/-- The verdict of fields given as in domain or not, in list order: the first that is not decides. -/
def firstBad : Nat → List Bool → ValidateResult
  | _, [] => accepted
  | i, good :: rest => if good then firstBad (i + 1) rest else outOfRange i

/-! ## Configurations -/

/-- The default opcodes and entries of 40_command_catalog.md, under either profile. -/
abbrev DefaultCommands (c : Config) : Prop :=
  c.knownOpcodes = defaultKnownOpcodes ∧ c.cmdCatalog = defaultCmdCatalog

/-- The default entries of 42_packet_catalog.md, with encoder counts of either sign. -/
abbrev DefaultPackets (c : Config) : Prop := c.pktCatalog = defaultPktCatalog

/-- R140(b), (c): where the declared fields of a command may lie. -/
def FieldsPlaced (len : LengthRule) (fields : List Field) : Prop :=
  match len with
  | .fixed k => ∀ f ∈ fields, 1 ≤ f.byteOffset ∧ f.byteOffset + f.byteWidth - 1 ≤ k
  | .prefixed off base _ =>
    (1 ≤ off ∧ off ≤ base) ∧ ∀ f ∈ fields, 1 ≤ f.byteOffset ∧ f.byteOffset + f.byteWidth - 1 ≤ off

/-- R140(e): byte `k` belongs to the field. -/
def Covers (f : Field) (k : Nat) : Prop := f.byteOffset ≤ k ∧ k < f.byteOffset + f.byteWidth

/-- R140, clause by clause, for the fields the selected profile declares (log 6), and R8: the catalog holds entries for
known opcodes only (log 15). -/
structure CommandsWellFormed (c : Config) : Prop where
  oneEntry : ∀ op ∈ c.knownOpcodes, ∃ e, c.cmdCatalog.filter (fun e => e.opcode == op) = [e]
  known : ∀ e ∈ c.cmdCatalog, e.opcode ∈ c.knownOpcodes
  placed : ∀ e ∈ c.cmdCatalog, FieldsPlaced e.length (specUnder c.domainProfile e).fields
  ranges : ∀ e ∈ c.cmdCatalog, ∀ f ∈ (specUnder c.domainProfile e).fields,
    (f.byteWidth = 1 ∨ f.byteWidth = 2) ∧ f.min ≤ f.max
  apart : ∀ e ∈ c.cmdCatalog, ∀ (i j : Nat) (f g : Field), i ≠ j →
    (specUnder c.domainProfile e).fields[i]? = some f → (specUnder c.domainProfile e).fields[j]? = some g →
      ∀ k, ¬(Covers f k ∧ Covers g k)

/-- R200(b), (c): the groups as `(id, first member, last member, total width)`. -/
def listedGroups : List (Byte × Nat × Nat × Nat) :=
  [(0#8, 7, 26, 26), (1#8, 7, 16, 10), (2#8, 17, 20, 6), (3#8, 21, 26, 10), (4#8, 27, 34, 14), (5#8, 35, 42, 12),
   (6#8, 7, 42, 52), (100#8, 7, 58, 80), (101#8, 43, 58, 28), (106#8, 46, 51, 12), (107#8, 54, 58, 9)]

/-- R200, clause by clause, with one entry for an ID (R23, log 17), and R265's packet 29 (log 16). -/
structure PacketsWellFormed (c : Config) : Prop where
  leaves : ∀ id : Byte, 7 ≤ id.toNat → id.toNat ≤ 58 →
    ∃ name w sg, packetSpec c id = some (.leaf name w sg) ∧ (w = 1 ∨ w = 2)
  groups : ∀ g ∈ listedGroups, packetSpec c g.1 = some (.group (idRange g.2.1 g.2.2.1))
    ∧ ((idRange g.2.1 g.2.2.1).map (leafWidth c)).sum = g.2.2.2
  others : ∀ id : Byte, (59 ≤ id.toNat ∧ id.toNat ≤ 99) ∨ (102 ≤ id.toNat ∧ id.toNat ≤ 105) ∨ 108 ≤ id.toNat →
    packetSpec c id = none
  oneEntry : ∀ e ∈ c.pktCatalog, c.pktCatalog.filter (fun f => f.id == e.id) = [e]
  packet29 : ∃ name sg, packetSpec c 29#8 = some (.leaf name 2 sg)

/-- How many of the packets `first .. last` are two bytes wide. -/
def twoByteCount (c : Config) (first last : Nat) : Nat :=
  ((idRange first last).filter fun m => leafWidth c m == 2).length

/-! ## The values of bytes, written out (R13, R72) -/

/-- An unsigned byte. -/
def u8Of (b : Byte) : Int := b.toNat

/-- A signed byte. -/
def s8Of (b : Byte) : Int := if b.toNat < 128 then (b.toNat : Int) else (b.toNat : Int) - 256

/-- An unsigned 16-bit value, high byte first. -/
def u16Of (hi lo : Byte) : Int := (hi.toNat * 256 + lo.toNat : Nat)

/-- A signed 16-bit value, high byte first. -/
def s16Of (hi lo : Byte) : Int := if hi.toNat < 128 then u16Of hi lo else u16Of hi lo - 65536

/-- The answer of a 1-byte leaf with ID `id`, its value read by `value`. -/
def leaf1 (id : Byte) (value : Byte → Int) : List Byte → DecodeResult
  | [b] => .record [(id, value b)]
  | _ => .error .structuralLengthMismatch

/-- The answer of a 2-byte leaf with ID `id`, its value read by `value`. -/
def leaf2 (id : Byte) (value : Byte → Byte → Int) : List Byte → DecodeResult
  | [hi, lo] => .record [(id, value hi lo)]
  | _ => .error .structuralLengthMismatch

/-! ## Declared fields of a command, by data byte (data byte k is buffer byte k + 1) -/

/-- Data byte `k` as an unsigned value lies in `[lo, hi]`. -/
def u8In (data : List Byte) (k : Nat) (lo hi : Int) : Bool :=
  decide (lo ≤ u8Of (data.getD k 0#8)) && decide (u8Of (data.getD k 0#8) ≤ hi)

/-- Data byte `k` as a signed value lies in `[lo, hi]`. -/
def s8In (data : List Byte) (k : Nat) (lo hi : Int) : Bool :=
  decide (lo ≤ s8Of (data.getD k 0#8)) && decide (s8Of (data.getD k 0#8) ≤ hi)

/-- Data bytes `k` and `k + 1` as a signed 16-bit value. -/
def s16At (data : List Byte) (k : Nat) : Int := s16Of (data.getD k 0#8) (data.getD (k + 1) 0#8)

/-- That value lies in `[lo, hi]`. -/
def s16In (data : List Byte) (k : Nat) (lo hi : Int) : Bool :=
  decide (lo ≤ s16At data k) && decide (s16At data k ≤ hi)

/-- The answer of a command of `n` data bytes whose fields have these verdicts. -/
def byFields (n : Nat) (data : List Byte) (good : List Bool) : ValidateResult :=
  if data.length = n then firstBad 0 good else wrongLength

/-- The answer of a command that declares these fields under EXTENDED and none under SOURCE (R141). -/
def byProfile (profile : DomainProfile) (n : Nat) (data : List Byte) (good : List Bool) : ValidateResult :=
  match profile with
  | .source => byLength (data.length = n)
  | .extended => byFields n data good

/-! ## The groups as the spec lists them -/

/-- The width and signedness of the leaves but 43 and 44, from the Types of R202 to R253. -/
def listedLeaves : List (Byte × Nat × Bool) :=
  [(7#8, 1, false), (8#8, 1, false), (9#8, 1, false), (10#8, 1, false), (11#8, 1, false), (12#8, 1, false),
   (13#8, 1, false), (14#8, 1, false), (15#8, 1, false), (16#8, 1, false), (17#8, 1, false), (18#8, 1, false),
   (19#8, 2, true), (20#8, 2, true), (21#8, 1, false), (22#8, 2, false), (23#8, 2, true), (24#8, 1, true),
   (25#8, 2, false), (26#8, 2, false), (27#8, 2, false), (28#8, 2, false), (29#8, 2, false), (30#8, 2, false),
   (31#8, 2, false), (32#8, 1, false), (33#8, 2, false), (34#8, 1, false), (35#8, 1, false), (36#8, 1, false),
   (37#8, 1, false), (38#8, 1, false), (39#8, 2, true), (40#8, 2, true), (41#8, 2, true), (42#8, 2, true),
   (45#8, 1, false), (46#8, 2, false), (47#8, 2, false), (48#8, 2, false), (49#8, 2, false), (50#8, 2, false),
   (51#8, 2, false), (52#8, 1, false), (53#8, 1, false), (54#8, 2, true), (55#8, 2, true), (56#8, 2, true),
   (57#8, 2, true), (58#8, 1, false)]

/-- The width and signedness of a leaf; 43 and 44 follow `SIGNED_ENCODER_COUNTS` (R238, R239). -/
def listedType (encoders : Bool) (id : Byte) : Nat × Bool :=
  match listedLeaves.find? fun l => l.1 == id with
  | some l => l.2
  | none => (2, encoders)

/-- The value of the leaf `id` at byte offset `offset` of a response. -/
def listedValue (encoders : Bool) (buf : List Byte) (id : Byte) (offset : Nat) : Int :=
  let (w, sg) := listedType encoders id
  match w, (buf.drop offset) with
  | 1, b :: _ => if sg then s8Of b else u8Of b
  | _, hi :: lo :: _ => if sg then s16Of hi lo else u16Of hi lo
  | _, _ => 0

/-- The answer of a group of `total` bytes whose members stand at the listed offsets. -/
def groupAnswer (encoders : Bool) (total : Nat) (members : List (Byte × Nat)) (buf : List Byte) : DecodeResult :=
  if buf.length = total then .record (members.map fun m => (m.1, listedValue encoders buf m.1 m.2))
  else .error .structuralLengthMismatch

/-- R254: member and offset. -/
def offsets0 : List (Byte × Nat) :=
  [(7#8, 0), (8#8, 1), (9#8, 2), (10#8, 3), (11#8, 4), (12#8, 5), (13#8, 6), (14#8, 7), (15#8, 8), (16#8, 9),
   (17#8, 10), (18#8, 11), (19#8, 12), (20#8, 14), (21#8, 16), (22#8, 17), (23#8, 19), (24#8, 21), (25#8, 22),
   (26#8, 24)]

/-- R255: member and offset. -/
def offsets1 : List (Byte × Nat) :=
  [(7#8, 0), (8#8, 1), (9#8, 2), (10#8, 3), (11#8, 4), (12#8, 5), (13#8, 6), (14#8, 7), (15#8, 8), (16#8, 9)]

/-- R256: member and offset. -/
def offsets2 : List (Byte × Nat) :=
  [(17#8, 0), (18#8, 1), (19#8, 2), (20#8, 4)]

/-- R257: member and offset. -/
def offsets3 : List (Byte × Nat) :=
  [(21#8, 0), (22#8, 1), (23#8, 3), (24#8, 5), (25#8, 6), (26#8, 8)]

/-- R258: member and offset. -/
def offsets4 : List (Byte × Nat) :=
  [(27#8, 0), (28#8, 2), (29#8, 4), (30#8, 6), (31#8, 8), (32#8, 10), (33#8, 11), (34#8, 13)]

/-- R259: member and offset. -/
def offsets5 : List (Byte × Nat) :=
  [(35#8, 0), (36#8, 1), (37#8, 2), (38#8, 3), (39#8, 4), (40#8, 6), (41#8, 8), (42#8, 10)]

/-- R260: member and offset. -/
def offsets6 : List (Byte × Nat) :=
  [(7#8, 0), (8#8, 1), (9#8, 2), (10#8, 3), (11#8, 4), (12#8, 5), (13#8, 6), (14#8, 7), (15#8, 8), (16#8, 9),
   (17#8, 10), (18#8, 11), (19#8, 12), (20#8, 14), (21#8, 16), (22#8, 17), (23#8, 19), (24#8, 21), (25#8, 22),
   (26#8, 24), (27#8, 26), (28#8, 28), (29#8, 30), (30#8, 32), (31#8, 34), (32#8, 36), (33#8, 37), (34#8, 39),
   (35#8, 40), (36#8, 41), (37#8, 42), (38#8, 43), (39#8, 44), (40#8, 46), (41#8, 48), (42#8, 50)]

/-- R261: member and offset. -/
def offsets100 : List (Byte × Nat) :=
  [(7#8, 0), (8#8, 1), (9#8, 2), (10#8, 3), (11#8, 4), (12#8, 5), (13#8, 6), (14#8, 7), (15#8, 8), (16#8, 9),
   (17#8, 10), (18#8, 11), (19#8, 12), (20#8, 14), (21#8, 16), (22#8, 17), (23#8, 19), (24#8, 21), (25#8, 22),
   (26#8, 24), (27#8, 26), (28#8, 28), (29#8, 30), (30#8, 32), (31#8, 34), (32#8, 36), (33#8, 37), (34#8, 39),
   (35#8, 40), (36#8, 41), (37#8, 42), (38#8, 43), (39#8, 44), (40#8, 46), (41#8, 48), (42#8, 50), (43#8, 52),
   (44#8, 54), (45#8, 56), (46#8, 57), (47#8, 59), (48#8, 61), (49#8, 63), (50#8, 65), (51#8, 67), (52#8, 69),
   (53#8, 70), (54#8, 71), (55#8, 73), (56#8, 75), (57#8, 77), (58#8, 79)]

/-- R262: member and offset. -/
def offsets101 : List (Byte × Nat) :=
  [(43#8, 0), (44#8, 2), (45#8, 4), (46#8, 5), (47#8, 7), (48#8, 9), (49#8, 11), (50#8, 13), (51#8, 15), (52#8, 17),
   (53#8, 18), (54#8, 19), (55#8, 21), (56#8, 23), (57#8, 25), (58#8, 27)]

/-- R263: member and offset. -/
def offsets106 : List (Byte × Nat) :=
  [(46#8, 0), (47#8, 2), (48#8, 4), (49#8, 6), (50#8, 8), (51#8, 10)]

/-- R264: member and offset. -/
def offsets107 : List (Byte × Nat) :=
  [(54#8, 0), (55#8, 2), (56#8, 4), (57#8, 6), (58#8, 8)]

end Sys2Proof.Machine
end

