-- ==== Sys2Proof/Certificates/Slice0/Obligations.lean ====
section
/-! DEFINITION. The statements for the provers. The terms they use beside the machine's own stand in Safety.lean. -/

open Sys2Proof Sys2Proof.Machine

/-- A step runs the transaction its port word decodes to. When the first word at the port decodes to an instruction,
that instruction is in form, and one step is exec of it on the state with that word taken from the port. With no word
at the port a step leaves the state as it is, and a word that decodes to nothing is refused with the decoder's reason
(the model's choices, log 2 and log 1). (Rests on: 20_memory.md section 3, 30_encoding.md section 5) -/
def Obligations.StepRunsTheDecodedTransaction : Prop :=
  ∀ s : State,
    (∀ word rest i, s.port = word :: rest → decode word = .ok i →
      i.wellFormed = true ∧ step s = exec i { s with port := rest })
    ∧ (s.port = [] → step s = .next s)
    ∧ (∀ word rest why, s.port = word :: rest → decode word = .error why →
      step s = .refused (.notATransaction why))

/-- Decoding the bytes of a well-formed transaction gives it back. For every well-formed instruction, with every
operand, decode of encode is the instruction. The byte spelling rests on R82, the spec's own decision D25, and on log
1 and log 4. (Rests on: 30_encoding.md section 5, 30_encoding.md section 2, 30_encoding.md section 3) -/
def Obligations.DecodeOfEncode : Prop :=
  ∀ i : Instr, i.wellFormed = true → decode (encode i) = .ok i

/-- Bytes that decode are the encoding of what they decode to. For every byte list that decodes to an instruction, the
instruction is well formed and its encoding is that byte list, so no two byte lists are one transaction and no bit is
dropped. The byte spelling rests on R82, the spec's own decision D25, and on log 1 and log 4. (Rests on:
30_encoding.md section 5, 30_encoding.md section 2, 30_encoding.md section 3) -/
def Obligations.EncodeOfDecode : Prop :=
  ∀ (word : List Byte) (i : Instr), decode word = .ok i → i.wellFormed = true ∧ encode i = word

/-- Transaction encodings of the spec's programs decode to their transactions. The encodings of P1, P2, P5 and P6
(DRIVE -200 500, START, STOP, DECODE 3, DECODE 60, STREAM 19, IoError, EndOfStream, STREAM_RESET), an unknown opcode
and an empty buffer decode to the transactions they stand for. The byte spelling rests on R82, the spec's own decision
D25, and on log 1 and log 4. (Rests on: 95_test_vectors.md section 3, 30_encoding.md section 5) -/
def Obligations.SpecWordsDecode : Prop :=
  decode [0#8, 137#8, 255#8, 56#8, 1#8, 244#8] = .ok (.drive [255#8, 56#8, 1#8, 244#8])
  ∧ decode [0#8, 128#8] = .ok (.start [])
  ∧ decode [0#8, 173#8] = .ok (.stop [])
  ∧ decode [0#8, 140#8, 0#8, 1#8, 60#8, 32#8] = .ok (.song [0#8, 1#8, 60#8, 32#8])
  ∧ decode [1#8, 3#8, 2#8, 58#8] = .ok (.pktGroup3 [2#8, 58#8])
  ∧ decode [1#8, 24#8, 231#8] = .ok (.pktTemperature [231#8])
  ∧ decode [1#8, 60#8, 0#8] = .ok (.decode 60#8 [0#8])
  ∧ decode [2#8, 0#8, 19#8] = .ok (.streamStep (.byte 19#8))
  ∧ decode [2#8, 1#8] = .ok (.streamStep .ioError)
  ∧ decode [2#8, 2#8] = .ok (.streamStep .endOfStream)
  ∧ decode [3#8] = .ok .streamReset
  ∧ decode [0#8, 159#8, 1#8, 2#8] = .ok (.validate [159#8, 1#8, 2#8])
  ∧ decode [0#8] = .ok (.validate [])

/-- A selector other than 0 to 3 is no transaction. Bytes whose selector is above 3 decode to nothing, by name, and a
step on them is refused. The refusal is the model's (log 1). (Rests on: 30_encoding.md section 5) -/
def Obligations.NoFifthSelector : Prop :=
  ∀ (s : State) (sel : Byte) (operands : List Byte) (rest : List (List Byte)), 4 ≤ sel.toNat →
    decode (sel :: operands) = .error (.noSuchSelector sel)
    ∧ (s.port = (sel :: operands) :: rest → step s = .refused (.notATransaction (.noSuchSelector sel)))

/-- Instantiation and STREAM_RESET leave the stream unit at its reset values. A block instantiated on any admitted
configuration has SEEK_HEADER, length 0, an empty payload and sum 0, with the catalogs it was given; STREAM_RESET on
any state leaves the same values in the unit and does not touch the catalogs; the reset state is the block
instantiated on the defaults. The spec marks these values as its own decision (R33, D20); that reset takes the default
parameters is the model's choice (log 12). (Rests on: 10_state.md section 5, 70_reset_and_hazards.md section 1) -/
def Obligations.ResetStateIsR33 : Prop :=
  (∀ c : Config, admitted c = true →
      ∃ s, State.instantiate c = .next s ∧ UnitReset s ∧ s.cfg = c)
  ∧ (∀ s : State, ∃ t, exec .streamReset s = .next t ∧ UnitReset t ∧ t.cfg = s.cfg)
  ∧ State.instantiate defaultConfig = .next State.reset ∧ UnitReset State.reset ∧ State.reset.cfg = defaultConfig

/-- STREAM_RESET puts the unit into its reset state and gives nothing back. On every state STREAM_RESET answers the
state with the four registers of the unit at their reset values and everything else, the list of results included,
unchanged; instantiating the unit on the same catalogs gives the same four values. The spec marks STREAM_RESET as its
own decision (R312, D19). (Rests on: 44_stream_decoder.md section 4, 10_state.md section 5) -/
def Obligations.StreamResetClearsTheUnit : Prop :=
  ∀ s : State,
    exec .streamReset s
      = .next { s with sState := .seekHeader, sLen := 0#8, sPayload := [], sSum := 0#8 }
    ∧ UnitReset (State.fresh s.cfg)

/-- The block is instantiated on well-formed catalogs only; the defaults are well formed. Instantiation answers the
fresh state on a configuration whose catalogs meet R140, R200 and R265 clause by clause, and is refused by name on any
other: one that breaks any clause, for example with two entries for one code, an entry for an opcode that is not
known, a field of any entry with min above max, two fields on one byte, a leaf of width 3 or a group of another total.
The default catalogs are instantiated under either domain profile, either encoder sign and either group policy. The
spec marks the admission as its own decision (R455, D27); the refusal's name and the form of the parameters are the
model's choice (log 6); one entry for an ID, no entry for an unknown opcode and the width of packet 29 are read from
R23, R8 and R265 (log 17, log 15, log 16). (Rests on: 70_reset_and_hazards.md section 2, 40_command_catalog.md section
3, 42_packet_catalog.md section 1) -/
def Obligations.CatalogAdmission : Prop :=
  (∀ c : Config, CommandsWellFormed c → PacketsWellFormed c → State.instantiate c = .next (State.fresh c))
  ∧ (∀ c : Config, ¬(CommandsWellFormed c ∧ PacketsWellFormed c) → State.instantiate c = .refused .catalogNotAdmitted)
  ∧ (∀ (profile : DomainProfile) (encoders : Bool) (policy : StreamGroupPolicy), ∃ s,
      State.instantiate { defaultConfig with domainProfile := profile, signedEncoderCounts := encoders,
                                             streamGroupPolicy := policy } = .next s)

/-- The group totals of RLIB hold of every admitted packet catalog. For every admitted configuration, each of the
eleven groups has the spec's members in ascending order and its members' widths add up to the total RLIB gives. A row
is the ID, the first and the last member and the total. (Rests on: 42_packet_catalog.md section 1, 95_test_vectors.md
section 1) -/
def Obligations.GroupTotals : Prop :=
  ∀ c : Config, admitted c = true →
    ∀ g ∈ ([(0#8, 7, 26, 26), (1#8, 7, 16, 10), (2#8, 17, 20, 6), (3#8, 21, 26, 10), (4#8, 27, 34, 14), (5#8, 35, 42, 12),
            (6#8, 7, 42, 52), (100#8, 7, 58, 80), (101#8, 43, 58, 28), (106#8, 46, 51, 12), (107#8, 54, 58, 9)]
          : List (Byte × Nat × Nat × Nat)),
      packetSpec c g.1 = some (.group (idRange g.2.1 g.2.2.1)) ∧ totalWidth c (idRange g.2.1 g.2.2.1) = g.2.2.2

/-- The leaf widths that RLIB forces hold of every admitted packet catalog. For every admitted configuration: packets
7 to 16 are 1 byte wide, packets 46 to 51 are 2, packet 29 is 2 and packet 13 is 1; and of the packets 17 to 20, 21 to
26, 27 to 34, 35 to 42, 54 to 58 and 43 to 58 exactly 2, 4, 6, 4, 4 and 12 are 2 bytes wide. The spec marks this as
derived (R265); that admission refuses another width of packet 29 is log 16. (Rests on: 42_packet_catalog.md section
1, 92_eei_decisions.md D11) -/
def Obligations.ForcedLeafWidths : Prop :=
  ∀ c : Config, admitted c = true →
    (∀ id : Byte, 7 ≤ id.toNat → id.toNat ≤ 16 → leafWidth c id = 1)
    ∧ (∀ id : Byte, 46 ≤ id.toNat → id.toNat ≤ 51 → leafWidth c id = 2)
    ∧ leafWidth c 29#8 = 2 ∧ leafWidth c 13#8 = 1
    ∧ twoByteCount c 17 20 = 2 ∧ twoByteCount c 21 26 = 4 ∧ twoByteCount c 27 34 = 6 ∧ twoByteCount c 35 42 = 4
    ∧ twoByteCount c 54 58 = 4 ∧ twoByteCount c 43 58 = 12

/-- No transaction writes the catalogs or the parameters. Whatever a step runs, the configuration after it is the
configuration before it; so an admitted configuration stays admitted. That the catalogs are fixed at instantiation is
the spec's own decision (R23, D27). (Rests on: 10_state.md section 2, 20_memory.md section 4) -/
def Obligations.NoStepChangesTheCatalogs : Prop :=
  ∀ s t : State, step s = .next t → t.cfg = s.cfg ∧ (admitted s.cfg = true → admitted t.cfg = true)

/-- The stream unit is always in one of the four states of R453. FrameInv holds of a state when the unit is in
SEEK_HEADER with a cleared frame, in READ_LENGTH with sum 19 and no payload, in ACCUM_PAYLOAD with fewer bytes than N
and the right sum, or in READ_CHECKSUM with N bytes and the right sum. It holds after instantiation on any
configuration, and every step from a state where it holds answers a state where it holds. The spec marks this
invariant as derived (R453). (Rests on: 70_reset_and_hazards.md section 1, 10_state.md section 3) -/
def Obligations.EveryStepKeepsTheFrameInvariant : Prop :=
  (∀ c : Config, FrameInv (State.fresh c)) ∧ FrameInv State.reset
  ∧ ∀ s t : State, FrameInv s → step s = .next t → FrameInv t

/-- The frame invariant holds at reset. FrameInv holds of State.reset. The reset values are the spec's own decision
(R33, D20). (Rests on: 70_reset_and_hazards.md section 1) -/
def Obligations.FrameInvariantAtReset : Prop :=
  FrameInv State.reset

/-- What a byte does in SEEK_HEADER, READ_LENGTH and ACCUM_PAYLOAD. For every state and every byte: in SEEK_HEADER 19
starts a frame and any other byte changes nothing; in READ_LENGTH the byte becomes N and is added to the sum, and the
unit goes to READ_CHECKSUM if it is 0 and to ACCUM_PAYLOAD otherwise, where in a state that meets the invariant the
buffer is empty; in ACCUM_PAYLOAD the byte is appended and added to the sum, and the unit goes to READ_CHECKSUM when
the count reaches N. The output is None each time and nothing else changes. The bytes 0, 255, 163, 19 from reset give
None four times and leave READ_LENGTH with sum 19. (Formalises: R302, R303, R304) -/
def Obligations.StreamStepBeforeTheChecksum : Prop :=
  (∀ (s : State) (b : Byte),
    (s.sState = .seekHeader → b = 19#8 →
      answersEvent (.byte b) s { s with sState := .readLength, sSum := 19#8, sPayload := [] } .none)
    ∧ (s.sState = .seekHeader → b ≠ 19#8 → answersEvent (.byte b) s s .none)
    ∧ (s.sState = .readLength →
      answersEvent (.byte b) s
        { s with sState := if b = 0#8 then .readChecksum else .accumPayload, sLen := b, sSum := s.sSum + b } .none)
    ∧ (s.sState = .readLength → FrameInv s → s.sPayload = [])
    ∧ (s.sState = .accumPayload →
      answersEvent (.byte b) s
        { s with sState := if s.sPayload.length + 1 = s.sLen.toNat then .readChecksum else .accumPayload,
                 sPayload := s.sPayload ++ [b], sSum := s.sSum + b } .none))
  ∧ runAll (feed [0#8, 255#8, 163#8, 19#8]) State.reset
      = .next (withEvents [.none, .none, .none, .none] { State.reset with sState := .readLength, sSum := 19#8 })

/-- The three outcomes of the checksum step. In READ_CHECKSUM, in every state that meets the invariant, a byte c ends
the frame: the output is ChecksumFailure when 19 + N + the payload bytes + c is not 0 modulo 256, else FramingDesync
when the payload does not demultiplex, else the frame of its pairs. The unit is left in its reset state and nothing
else changes. This is R305 and R306; the result kinds are the spec's own decision (R306, D4). (Rests on:
44_stream_decoder.md section 2) -/
def Obligations.ChecksumStepOutcome : Prop :=
  ∀ (s : State) (c : Byte), FrameInv s → s.sState = .readChecksum →
    answersEvent (.byte c) s { s with sState := .seekHeader, sLen := 0#8, sPayload := [], sSum := 0#8 }
      (if (19 + s.sLen.toNat + natSum s.sPayload + c.toNat) % 256 = 0 then
        match demux s.cfg s.sPayload with
        | none => .framingDesync
        | some pairs => .frame pairs
      else .checksumFailure)

/-- IoError and EndOfStream are passed on and discard the partial frame. In every state, IoError and EndOfStream from
the source are the step's output, and the unit is left in its reset state with nothing else changed; the next byte is
then looked at as a header, so a 19 after either starts a frame. What becomes of the partial frame is the spec's own
decision (R308, D18). (Rests on: 44_stream_decoder.md section 2) -/
def Obligations.SourceErrorsDiscardTheFrame : Prop :=
  ∀ s : State,
    answersEvent .ioError s { s with sState := .seekHeader, sLen := 0#8, sPayload := [], sSum := 0#8 } .ioError
    ∧ answersEvent .endOfStream s { s with sState := .seekHeader, sLen := 0#8, sPayload := [], sSum := 0#8 }
        .endOfStream
    ∧ runAll [.streamStep .ioError, .streamStep (.byte 19#8)] s
        = .next (withEvents [.ioError, .none] { s with sState := .readLength, sLen := 0#8, sPayload := [], sSum := 19#8 })
    ∧ runAll [.streamStep .endOfStream, .streamStep (.byte 19#8)] s
        = .next (withEvents [.endOfStream, .none]
            { s with sState := .readLength, sLen := 0#8, sPayload := [], sSum := 19#8 })

/-- Every STREAM_STEP answers, with exactly one event. For every state and every source event, STREAM_STEP answers a
next state whose list of results is the old one with exactly one stream event after it; catalogs and port are
unchanged. The form of the events is the spec's own decision (R32, D3, D4); the list of results is the model's (log
3). (Rests on: 10_state.md section 4, 44_stream_decoder.md section 1) -/
def Obligations.EveryStreamStepGivesOneEvent : Prop :=
  ∀ (s : State) (ev : SourceEvent), ∃ t out,
    exec (.streamStep ev) s = .next t ∧ t.outputs = s.outputs ++ [.streamed out] ∧ t.cfg = s.cfg ∧ t.port = s.port

/-- Every frame outcome returns the unit to its reset state. For every state and source event, if the step's event is
not None then the unit's four registers are at their reset values after it; and any later run, of whatever
transactions, from two states that agree in the catalogs and are both so reset completes, gives the same results and
events from both, and leaves the same stream unit; one of the two may be the block fresh from reset. The spec marks
this as derived (R452). (Rests on: 70_reset_and_hazards.md section 1) -/
def Obligations.FrameOutcomesResetTheUnit : Prop :=
  (∀ (s t : State) (ev : SourceEvent) (out : StreamEvent), exec (.streamStep ev) s = .next t →
    t.outputs = s.outputs ++ [.streamed out] → out ≠ .none → UnitReset t)
  ∧ (∀ (s t : State) (is : List Instr), UnitReset s → UnitReset t → s.cfg = t.cfg →
      ∃ outs u v, runAll is s = .next u ∧ runAll is t = .next v
        ∧ u.outputs = s.outputs ++ outs ∧ v.outputs = t.outputs ++ outs
        ∧ u.sState = v.sState ∧ u.sLen = v.sLen ∧ u.sPayload = v.sPayload ∧ u.sSum = v.sSum)

/-- A frame is emitted only at its checksum byte, when its bytes sum to 0 modulo 256. From a state that meets the
invariant, if a step on a byte emits a frame then the unit was in READ_CHECKSUM, header, length, payload and that byte
sum to 0 modulo 256, and the frame is the demultiplexed payload. The spec marks this as derived (R307). (Rests on:
44_stream_decoder.md section 2) -/
def Obligations.EmittedFrameSumsToZero : Prop :=
  ∀ (s t : State) (b : Byte) (pairs : List Pair), FrameInv s → exec (.streamStep (.byte b)) s = .next t →
    t.outputs = s.outputs ++ [.streamed (.frame pairs)] →
    s.sState = .readChecksum ∧ (19 + s.sLen.toNat + natSum s.sPayload + b.toNat) % 256 = 0
      ∧ demux s.cfg s.sPayload = some pairs

/-- A whole frame fed from SEEK_HEADER gives one outcome, decided by its checksum and its payload. For every payload
of at most 255 bytes and every checksum byte, feeding 19, N, the payload and the checksum byte to a unit in
SEEK_HEADER gives None for every byte but the last; the last gives ChecksumFailure unless the byte is (256 - ((19 + N
+ sum) mod 256)) mod 256, and then the demultiplexed payload or FramingDesync. The unit is left in its reset state.
How the empty payload is treated (R315, D17) and the result kinds (R306, D4) are the spec's own decisions. (Rests on:
44_stream_decoder.md section 2, 30_encoding.md section 1) -/
def Obligations.WholeFrameRun : Prop :=
  ∀ (s : State) (p : List Byte) (c : Byte), s.sState = .seekHeader → p.length ≤ 255 →
    runAll (feed (frameBytes p c)) s
      = .next (withEvents
          (quietThen (p.length + 2)
            (if c.toNat = goodChecksum p then
              match demux s.cfg p with
              | none => .framingDesync
              | some pairs => .frame pairs
            else .checksumFailure))
          { s with sState := .seekHeader, sLen := 0#8, sPayload := [], sSum := 0#8 })

/-- Exactly one checksum byte is not answered with ChecksumFailure. For every payload of at most 255 bytes there is
exactly one byte that, as the checksum of its frame, does not give ChecksumFailure on a unit in SEEK_HEADER. The spec
marks this as derived (R76, R307). (Rests on: 44_stream_decoder.md section 2, 30_encoding.md section 1) -/
def Obligations.ExactlyOneChecksumPasses : Prop :=
  ∀ (s : State) (p : List Byte), s.sState = .seekHeader → p.length ≤ 255 →
    ∃ c : Byte, c = checksumByte (byte p.length) p ∧ ∀ c' : Byte,
      (∃ t, runAll (feed (frameBytes p c')) s = .next t ∧ t.outputs.getLast? = some (.streamed .checksumFailure))
        ↔ c' ≠ c

/-- Corrupting one payload byte or the checksum of a good frame gives ChecksumFailure and no pair. For a frame with
the right checksum read from SEEK_HEADER: with any one payload byte changed to another value, or the checksum byte
changed, every byte but the last gives None and the last ChecksumFailure, and the unit is left in its reset state; a
changed header byte starts no frame. The spec marks this as derived (R318). (Rests on: 44_stream_decoder.md section 4,
90_conflicts.md C3) -/
def Obligations.OneCorruptByteGivesChecksumFailure : Prop :=
  ∀ (s : State) (p : List Byte) (c : Byte), s.sState = .seekHeader → p.length ≤ 255 → c.toNat = goodChecksum p →
    (∀ (k : Nat) (b : Byte), k < p.length → p[k]? ≠ some b →
      runAll (feed (frameBytes (p.set k b) c)) s
        = .next (withEvents (quietThen (p.length + 2) .checksumFailure)
            { s with sState := .seekHeader, sLen := 0#8, sPayload := [], sSum := 0#8 }))
    ∧ (∀ c' : Byte, c' ≠ c →
      runAll (feed (frameBytes p c')) s
        = .next (withEvents (quietThen (p.length + 2) .checksumFailure)
            { s with sState := .seekHeader, sLen := 0#8, sPayload := [], sSum := 0#8 }))
    ∧ (∀ h : Byte, h ≠ 19#8 → answersEvent (.byte h) s s .none)

/-- The length byte of the RLIB frame corrupted to any value. Feeding 19, n, 29, 2, 25, 13, 0, 163 and then
EndOfStream from reset: n from 0 to 4 gives ChecksumFailure at step n + 3, n from 6 to 255 gives only EndOfStream at
step 9; no pair is emitted. The spec marks this as derived (R318). (Rests on: 44_stream_decoder.md section 4,
95_test_vectors.md section 1) -/
def Obligations.CorruptLengthOfTheExampleFrame : Prop :=
  ∀ n : Byte,
    (n.toNat < 5 →
      runAll (feed [19#8, n, 29#8, 2#8, 25#8, 13#8, 0#8, 163#8] ++ [.streamStep .endOfStream]) State.reset
        = .next (withEvents (quietThen (n.toNat + 2) .checksumFailure ++ quietThen (5 - n.toNat) .endOfStream)
            State.reset))
    ∧ (5 < n.toNat →
      runAll (feed [19#8, n, 29#8, 2#8, 25#8, 13#8, 0#8, 163#8] ++ [.streamStep .endOfStream]) State.reset
        = .next (withEvents (quietThen 8 .endOfStream) State.reset))

/-- RLIB's worked stream example. From reset, 19, 5, 29, 2, 25, 13, 0, 163 give None seven times and then the frame of
(29, 537) and (13, 0), with the unit back in its reset state; the sum after each of the first seven steps is 19, 24,
53, 55, 80, 93, 93. (Formalises: R319) -/
def Obligations.RlibExampleFrame : Prop :=
  runAll (feed [19#8, 5#8, 29#8, 2#8, 25#8, 13#8, 0#8, 163#8]) State.reset
      = .next (withEvents (quietThen 7 (.frame [(29#8, 537), (13#8, 0)])) State.reset)
  ∧ ∀ sum ∈ ([(1, 19#8), (2, 24#8), (3, 53#8), (4, 55#8), (5, 80#8), (6, 93#8), (7, 93#8)] : List (Nat × Byte)),
      ∃ t, runAll (feed ([19#8, 5#8, 29#8, 2#8, 25#8, 13#8, 0#8].take sum.1)) State.reset = .next t
        ∧ t.sSum = sum.2 ∧ (sum.1 = 2 → t.sLen = 5#8)

/-- A frame with N = 0. On a unit in SEEK_HEADER, 19 then 0 goes straight to READ_CHECKSUM with no payload; then 237
gives the frame with no pairs, and any other byte ChecksumFailure; the unit is left in its reset state. How N = 0 is
treated is the spec's own decision (R315, D17). (Rests on: 44_stream_decoder.md section 4) -/
def Obligations.EmptyFrame : Prop :=
  ∀ (s : State) (c : Byte), s.sState = .seekHeader →
    runAll (feed [19#8, 0#8]) s
      = .next (withEvents [.none, .none]
          { s with sState := .readChecksum, sLen := 0#8, sPayload := [], sSum := 19#8 })
    ∧ runAll (feed [19#8, 0#8, c]) s
      = .next (withEvents [.none, .none, if c = 237#8 then .frame [] else .checksumFailure]
          { s with sState := .seekHeader, sLen := 0#8, sPayload := [], sSum := 0#8 })

/-- A payload demultiplexes exactly when records tile it, and the pairs are theirs in order. For every configuration
and payload: demultiplexing gives a list of pairs if and only if the payload is the concatenation of records, each an
ID byte that may head a record and exactly its total width of data bytes, and the list is the concatenation of the
records' pairs. That the payload must be consumed exactly is the spec's own reading (R309, D16). (Rests on:
44_stream_decoder.md section 3, 30_encoding.md section 1) -/
def Obligations.DemuxAcceptsExactlyTheTilings : Prop :=
  ∀ (c : Config) (p : List Byte) (out : List Pair),
    demux c p = some out ↔
      ∃ records : List (Record × List Pair),
        p = records.flatMap (fun r => r.1.1 :: r.1.2) ∧ out = records.flatMap (fun r => r.2)
          ∧ ∀ r ∈ records, recordPairs c r.1 = some r.2

/-- The three causes of desync. After any accepted records: a record headed by an ID with no catalog entry, by a group
ID under LEAF_ONLY, or whose data bytes run past the end of the payload makes the whole payload desync. This is the
spec's own decision (R309, R311, D15, D16). (Rests on: 44_stream_decoder.md section 3) -/
def Obligations.DemuxDesyncs : Prop :=
  ∀ (c : Config) (before : List Byte) (pairs : List Pair) (id : Byte) (rest : List Byte),
    demux c before = some pairs →
    (packetSpec c id = none → demux c (before ++ id :: rest) = none)
    ∧ (∀ members, packetSpec c id = some (.group members) → c.streamGroupPolicy = .leafOnly →
        demux c (before ++ id :: rest) = none)
    ∧ (∀ spec, packetSpec c id = some spec → rest.length < totalWidth c (membersOf id spec) →
        demux c (before ++ id :: rest) = none)

/-- A leaf has the same value in a stream record and in a query response. For every configuration, leaf ID of width w
and w data bytes, the payload made of that one record demultiplexes to the one pair of the ID and LeafValue(w, signed,
bytes), and DECODE of that ID and those bytes answers the record of the same pair. Under the default packets [29, 2,
25] gives (29, 537) and [24, 231] gives (24, -25). (Formalises: R310) -/
def Obligations.StreamLeafEqualsDecode : Prop :=
  (∀ (s : State) (id : Byte) (name : String) (w : Nat) (sg : Bool) (d : List Byte),
    packetSpec s.cfg id = some (.leaf name w sg) → d.length = w →
    demux s.cfg (id :: d) = some [(id, leafValue w sg d)]
      ∧ answersDecode (.decode id d) s (.record [(id, leafValue w sg d)]))
  ∧ (∀ c : Config, DefaultPackets c →
      demux c [29#8, 2#8, 25#8] = some [(29#8, 537)] ∧ demux c [24#8, 231#8] = some [(24#8, -25)])

/-- A group ID in a stream payload, under either policy. For every configuration and group ID: under LEAF_ONLY a
payload that begins with it is a desync; under EXPAND_GROUPS the ID and the group's total width of data bytes
demultiplex to the pairs that DECODE of the group gives for those bytes. The example frame gives FramingDesync, and
the frame of the four members of group 2. The policy is the spec's own decision (R311, D15). (Rests on:
44_stream_decoder.md section 3) -/
def Obligations.GroupIdsInStreams : Prop :=
  (∀ (s : State) (id : Byte) (members d : List Byte), packetSpec s.cfg id = some (.group members) →
    (s.cfg.streamGroupPolicy = .leafOnly → demux s.cfg (id :: d) = none)
    ∧ (s.cfg.streamGroupPolicy = .expandGroups → d.length = totalWidth s.cfg members →
        ∃ pairs, pairs.map (·.1) = members ∧ demux s.cfg (id :: d) = some pairs
          ∧ answersDecode (.decode id d) s (.record pairs)))
  ∧ (∀ policy, runAll (feed [19#8, 7#8, 2#8, 0#8, 1#8, 255#8, 254#8, 0#8, 90#8, 140#8])
        (State.fresh { defaultConfig with streamGroupPolicy := policy })
      = .next (withEvents (quietThen 9
          (match policy with
            | .leafOnly => .framingDesync
            | .expandGroups => .frame [(17#8, 0), (18#8, 1), (19#8, -2), (20#8, 90)]))
          (State.fresh { defaultConfig with streamGroupPolicy := policy })))

/-- Every transaction completes: no fault and no refusal. For every instruction, with every operand, and every state,
exec answers a next state. Catalogs and port are unchanged, and the list of results is the old one, with one result
more unless the instruction is STREAM_RESET. VALIDATE, DECODE and every command and packet row leave the stream unit
unchanged. The list of results is the model's (log 3). (Rests on: 60_exceptions.md section 2, 60_exceptions.md section
8) -/
def Obligations.EveryTransactionAnswers : Prop :=
  ∀ (i : Instr) (s : State), ∃ t, exec i s = .next t ∧ t.cfg = s.cfg ∧ t.port = s.port
    ∧ (i = .streamReset → t.outputs = s.outputs)
    ∧ (i ≠ .streamReset → ∃ out, t.outputs = s.outputs ++ [out])
    ∧ ((∀ ev, i ≠ .streamStep ev) → i ≠ .streamReset →
        t.sState = s.sState ∧ t.sLen = s.sLen ∧ t.sPayload = s.sPayload ∧ t.sSum = s.sSum)

/-- Each command row is VALIDATE of its opcode, each packet row DECODE of its ID. For every row of the decoder's two
maps, all operands and all states: exec of the row's instruction is exec of VALIDATE on the opcode and the data bytes,
or of DECODE on the ID and the buffer. The maps have 39 and 63 rows with different keys. That a row is a transaction
with its first operand fixed is the model's choice (log 4). (Rests on: 30_encoding.md section 2, 40_command_catalog.md
section 2, 42_packet_catalog.md section 2) -/
def Obligations.RowsAreTransactions : Prop :=
  (∀ row ∈ commandRows, ∀ (data : List Byte) (s : State),
      exec (row.make data) s = exec (.validate (row.opcode :: data)) s)
  ∧ (∀ row ∈ packetRows, ∀ (buf : List Byte) (s : State), exec (row.make buf) s = exec (.decode row.id buf) s)
  ∧ (commandRows.map (·.opcode)).Nodup ∧ (packetRows.map (·.id)).Nodup
  ∧ commandRows.length = 39 ∧ packetRows.length = 63

/-- VALIDATE and DECODE commute with STREAM_STEP. For every VALIDATE or DECODE and every STREAM_STEP, run in either
order from any state: each gives the same result in both orders, and both orders leave the same stream unit, catalogs
and port. (Rests on: 20_memory.md section 4, 41_command_validator.md, 43_group_decoder.md) -/
def Obligations.ValidateAndDecodeCommuteWithSteps : Prop :=
  ∀ (i : Instr) (ev : SourceEvent) (s : State), ((∃ buf, i = .validate buf) ∨ ∃ id buf, i = .decode id buf) →
    ∃ (r : Output) (out : StreamEvent) (t : State),
      exec i s = .next { s with outputs := s.outputs ++ [r] }
      ∧ exec (.streamStep ev) s = .next { t with outputs := s.outputs ++ [.streamed out] }
      ∧ runAll [i, .streamStep ev] s = .next { t with outputs := s.outputs ++ [r, .streamed out] }
      ∧ runAll [.streamStep ev, i] s = .next { t with outputs := s.outputs ++ [.streamed out, r] }

/-- The shape of the VALIDATE result. Every VALIDATE answers, changes nothing but the list of results, and gives a
triple whose kind is OK, UnknownOpcode, StructuralLengthMismatch or FieldOutOfRange, with ok true exactly when the
kind is OK, and a field index exactly when it is FieldOutOfRange, where it is the index of a declared field outside
its domain, all fields before it in their domains. The form of the triple is the spec's own decision (R30, D4, D10).
(Rests on: 10_state.md section 4, 41_command_validator.md) -/
def Obligations.ValidateTripleShape : Prop :=
  ∀ (buf : List Byte) (s : State), ∃ r : ValidateResult, answersValidate (.validate buf) s r
    ∧ r.err ∈ [ResultKind.ok, .unknownOpcode, .structuralLengthMismatch, .fieldOutOfRange]
    ∧ (r.ok = true ↔ r.err = .ok) ∧ (r.field.isSome = true ↔ r.err = .fieldOutOfRange)
    ∧ ∀ i, r.field = some i → ∃ op spec f, buf.head? = some op ∧ commandSpec s.cfg op = some spec
        ∧ spec.fields[i]? = some f ∧ inDomain f (fieldValue f buf) = false
        ∧ ∀ j g, j < i → spec.fields[j]? = some g → inDomain g (fieldValue g buf) = true

/-- VALIDATE of an empty buffer. On every state VALIDATE of the empty buffer answers (false, UnknownOpcode, none) and
changes nothing else. The error kind is the spec's own decision (R163, D5). (Rests on: 41_command_validator.md) -/
def Obligations.EmptyBufferIsUnknownOpcode : Prop :=
  ∀ s : State, answersValidate (.validate []) s unknownOpcode

/-- VALIDATE of an opcode with no catalog entry. On every state a buffer whose byte 0 has no catalog entry answers
(false, UnknownOpcode, none), whatever follows; under the default catalog those bytes are 0..6, 8..127, 159..161, 166,
169..172 and 174..255. The default set of opcodes is the spec's general knowledge and its own decision (R78, R100,
D6). (Rests on: 41_command_validator.md, 30_encoding.md section 2, 40_command_catalog.md section 1) -/
def Obligations.UnknownOpcodes : Prop :=
  ∀ (s : State) (op : Byte) (data : List Byte),
    (commandSpec s.cfg op = none → answersValidate (.validate (op :: data)) s unknownOpcode)
    ∧ (DefaultCommands s.cfg → (commandSpec s.cfg op = none ↔
        op.toNat ≤ 6 ∨ (8 ≤ op.toNat ∧ op.toNat ≤ 127) ∨ (159 ≤ op.toNat ∧ op.toNat ≤ 161) ∨ op.toNat = 166
          ∨ (169 ≤ op.toNat ∧ op.toNat ≤ 172) ∨ 174 ≤ op.toNat))

/-- VALIDATE of a known opcode with the wrong length. On every state and catalog, a known opcode whose number of data
bytes is not its fixed count, or is not base + per * prefix, or whose buffer is too short to hold the prefix, answers
(false, StructuralLengthMismatch, none), whatever its fields hold. That a wrong length fails so is R165; the count
base + per * prefix of a variable-length command, and that a buffer without its prefix has none, are the spec's own
decision (R162, R73, R24, D8). (Rests on: 41_command_validator.md, 30_encoding.md section 1, 10_state.md section 2,
92_eei_decisions.md D8) -/
def Obligations.WrongLengthIsRejected : Prop :=
  ∀ (s : State) (op : Byte) (data : List Byte) (spec : CommandSpec), commandSpec s.cfg op = some spec →
    (∀ k, spec.length = .fixed k → data.length ≠ k → answersValidate (.validate (op :: data)) s wrongLength)
    ∧ (∀ off base per, spec.length = .prefixed off base per →
        ((op :: data).length ≤ off → answersValidate (.validate (op :: data)) s wrongLength)
        ∧ (∀ l : Byte, (op :: data)[off]? = some l → data.length ≠ base + per * l.toNat →
            answersValidate (.validate (op :: data)) s wrongLength))

/-- The range check of VALIDATE. On every state and catalog, for a known opcode with the right number of data bytes:
if every declared field's value lies in [min, max] or equals a sentinel the answer is (true, OK, none); if field i
does not and every field before it does, it is (false, FieldOutOfRange, i). A field's value is LeafValue of its width,
signedness and bytes. (Formalises: R166) -/
def Obligations.RangeCheckReportsTheFirstBadField : Prop :=
  ∀ (s : State) (op : Byte) (data : List Byte) (spec : CommandSpec), commandSpec s.cfg op = some spec →
    dataBytes spec.length (op :: data) = some data.length →
    let good := fun f : Field =>
      let v := leafValue f.byteWidth f.signed (((op :: data).drop f.byteOffset).take f.byteWidth)
      (f.min ≤ v ∧ v ≤ f.max) ∨ v ∈ f.sentinels
    ((∀ f ∈ spec.fields, good f) → answersValidate (.validate (op :: data)) s accepted)
    ∧ (∀ i f, spec.fields[i]? = some f → ¬ good f → (∀ j g, j < i → spec.fields[j]? = some g → good g) →
        answersValidate (.validate (op :: data)) s (outOfRange i))

/-- LeafValue on one and two bytes. An unsigned byte is its number, a signed byte its two's-complement reading; two
bytes are high byte times 256 plus low byte, unsigned or in two's complement. The spec marks the rule as derived
(R13). (Rests on: 00_scope.md section 4, 30_encoding.md section 1) -/
def Obligations.LeafValueOfBytes : Prop :=
  ∀ b hi lo : Byte,
    leafValue 1 false [b] = u8Of b ∧ leafValue 1 true [b] = s8Of b
    ∧ leafValue 2 false [hi, lo] = u16Of hi lo ∧ leafValue 2 true [hi, lo] = s16Of hi lo

/-- A field moved one unit past its max or min is rejected, and by its own index. For every admitted catalog, known
opcode and buffer of the right length whose other declared fields are in their domains: if field i holds its max and
the same buffer with only field i's bytes changed, still of the right length, holds max + 1, which is no sentinel,
then the first is accepted and the second answers FieldOutOfRange(i). The same for min and min - 1. The spec marks
this as derived (R173). (Rests on: 41_command_validator.md, 40_command_catalog.md section 3) -/
def Obligations.PerturbationLaw : Prop :=
  ∀ (s : State) (op : Byte) (data data' : List Byte) (spec : CommandSpec) (i : Nat) (f : Field),
    admitted s.cfg = true → commandSpec s.cfg op = some spec → spec.fields[i]? = some f →
    dataBytes spec.length (op :: data) = some data.length → dataBytes spec.length (op :: data') = some data'.length →
    data'.length = data.length →
    (∀ k, ¬ (f.byteOffset ≤ k ∧ k < f.byteOffset + f.byteWidth) → (op :: data')[k]? = (op :: data)[k]?) →
    (∀ j g, j ≠ i → spec.fields[j]? = some g → inDomain g (fieldValue g (op :: data)) = true) →
    (fieldValue f (op :: data) = f.max → fieldValue f (op :: data') = f.max + 1 → f.max + 1 ∉ f.sentinels →
      answersValidate (.validate (op :: data)) s accepted ∧ answersValidate (.validate (op :: data')) s (outOfRange i))
    ∧ (fieldValue f (op :: data) = f.min → fieldValue f (op :: data') = f.min - 1 → f.min - 1 ∉ f.sentinels →
      answersValidate (.validate (op :: data)) s accepted
        ∧ answersValidate (.validate (op :: data')) s (outOfRange i))

/-- On an admitted catalog no field read goes past the end of the buffer. For every admitted configuration: a declared
field of a known opcode lies inside every buffer that passes the length check; and the members of a packet whose
length check passed are read inside the buffer, the last one exactly to its end, and each is 1 or 2 bytes wide. The
spec marks this as derived (R55, R140); see log 10. (Rests on: 40_command_catalog.md section 3, 20_memory.md section
3) -/
def Obligations.FieldReadsStayInTheBuffer : Prop :=
  ∀ c : Config, admitted c = true →
    (∀ (op : Byte) (data : List Byte) (spec : CommandSpec), commandSpec c op = some spec →
      dataBytes spec.length (op :: data) = some data.length →
      ∀ f ∈ spec.fields, 1 ≤ f.byteOffset ∧ f.byteOffset + f.byteWidth ≤ (op :: data).length)
    ∧ (∀ (id : Byte) (spec : PacketSpec) (buf : List Byte), packetSpec c id = some spec →
      buf.length = totalWidth c (membersOf id spec) → ∀ (k : Nat) (m : Byte), (membersOf id spec)[k]? = some m →
        totalWidth c ((membersOf id spec).take k) + leafWidth c m ≤ buf.length
        ∧ (k + 1 = (membersOf id spec).length → totalWidth c ((membersOf id spec).take k) + leafWidth c m = buf.length)
        ∧ (leafWidth c m = 1 ∨ leafWidth c m = 2))

/-- The thirteen commands that take no data bytes. Under the default commands and either profile, RESET, START,
CONTROL, SAFE, FULL, POWER, SPOT, CLEAN, MAX, SEEK_DOCK, PLAY_SCRIPT, SHOW_SCRIPT, STOP answer (true, OK, none) when
no data byte follows the opcode and (false, StructuralLengthMismatch, none) otherwise, and change nothing else: the
stream unit in particular. The lengths are the spec's general knowledge and its own decision (D6, D7; log 6). (Rests
on: 40_command_catalog.md section 2) -/
def Obligations.CommandsWithoutDataBytes : Prop :=
  ∀ (s : State) (data : List Byte), DefaultCommands s.cfg →
    answersValidate (.reset data) s (byLength (data.length = 0))
    ∧ answersValidate (.start data) s (byLength (data.length = 0))
    ∧ answersValidate (.control data) s (byLength (data.length = 0))
    ∧ answersValidate (.safe data) s (byLength (data.length = 0))
    ∧ answersValidate (.full data) s (byLength (data.length = 0))
    ∧ answersValidate (.power data) s (byLength (data.length = 0))
    ∧ answersValidate (.spot data) s (byLength (data.length = 0))
    ∧ answersValidate (.clean data) s (byLength (data.length = 0))
    ∧ answersValidate (.max data) s (byLength (data.length = 0))
    ∧ answersValidate (.seekDock data) s (byLength (data.length = 0))
    ∧ answersValidate (.playScript data) s (byLength (data.length = 0))
    ∧ answersValidate (.showScript data) s (byLength (data.length = 0))
    ∧ answersValidate (.stop data) s (byLength (data.length = 0))

/-- The twelve fixed-length commands with data bytes and no declared field. Under the default commands and either
profile, MOTORS, PLAY, SENSORS, DIGITAL_OUTPUTS, SEND_IR, WAIT_TIME, WAIT_EVENT, BUTTONS take exactly 1 data byte,
SCHEDULING_LEDS, WAIT_DISTANCE and WAIT_ANGLE exactly 2 and LEDS exactly 3, of any values; any other number is
StructuralLengthMismatch. The lengths are the spec's general knowledge and its own decision (D6, D7; log 6). (Rests
on: 40_command_catalog.md section 2, 41_command_validator.md) -/
def Obligations.CommandsCheckedByLengthAlone : Prop :=
  ∀ (s : State) (data : List Byte), DefaultCommands s.cfg →
    answersValidate (.motors data) s (byLength (data.length = 1))
    ∧ answersValidate (.play data) s (byLength (data.length = 1))
    ∧ answersValidate (.sensors data) s (byLength (data.length = 1))
    ∧ answersValidate (.digitalOutputs data) s (byLength (data.length = 1))
    ∧ answersValidate (.sendIr data) s (byLength (data.length = 1))
    ∧ answersValidate (.waitTime data) s (byLength (data.length = 1))
    ∧ answersValidate (.waitEvent data) s (byLength (data.length = 1))
    ∧ answersValidate (.buttons data) s (byLength (data.length = 1))
    ∧ answersValidate (.schedulingLeds data) s (byLength (data.length = 2))
    ∧ answersValidate (.waitDistance data) s (byLength (data.length = 2))
    ∧ answersValidate (.waitAngle data) s (byLength (data.length = 2))
    ∧ answersValidate (.leds data) s (byLength (data.length = 3))

/-- SONG, STREAM, QUERY_LIST and SCRIPT are checked by their prefix byte. Under the default commands and either
profile: SONG is accepted exactly when its second data byte L is present and 2 + 2 * L data bytes follow the opcode;
STREAM, QUERY_LIST and SCRIPT exactly when the first data byte L is present and 1 + L data bytes follow; anything else
is StructuralLengthMismatch. The length rules are the spec's general knowledge and its own decision (D6 to D8; log 6).
(Rests on: 40_command_catalog.md section 2, 41_command_validator.md) -/
def Obligations.VariableLengthCommands : Prop :=
  ∀ (s : State) (data : List Byte), DefaultCommands s.cfg →
    answersValidate (.song data) s (byLength (∃ l : Byte, data[1]? = some l ∧ data.length = 2 + 2 * l.toNat))
    ∧ answersValidate (.stream data) s (byLength (∃ l : Byte, data[0]? = some l ∧ data.length = 1 + l.toNat))
    ∧ answersValidate (.queryList data) s (byLength (∃ l : Byte, data[0]? = some l ∧ data.length = 1 + l.toNat))
    ∧ answersValidate (.script data) s (byLength (∃ l : Byte, data[0]? = some l ∧ data.length = 1 + l.toNat))

/-- DRIVE checks its velocity and its radius, under either profile. Under the default commands: DRIVE takes exactly 4
data bytes; the velocity must lie in [-500, 500] and the radius in [-2000, 2000] or be 32767 or -32768; the velocity
is field 0 and is reported first. (Rests on: 40_command_catalog.md section 2, 41_command_validator.md) -/
def Obligations.DriveCommand : Prop :=
  ∀ (s : State) (data : List Byte), DefaultCommands s.cfg →
    answersValidate (.drive data) s
      (byFields 4 data
        [s16In data 0 (-500) 500,
         s16In data 2 (-2000) 2000 || s16At data 2 == 32767 || s16At data 2 == -32768])

/-- BAUD and PAUSE_RESUME_STREAM under the two profiles. Under the default commands: one data byte each; under SOURCE
any value, under EXTENDED a baud code of 0 to 11 and a stream state of 0 or 1, or FieldOutOfRange(0). Lengths and
domains are the spec's general knowledge and its own decision (D6, D7, D9; log 6). (Rests on: 40_command_catalog.md
section 2, 40_command_catalog.md section 4) -/
def Obligations.OneByteCommandsWithDomains : Prop :=
  ∀ (s : State) (data : List Byte), DefaultCommands s.cfg →
    answersValidate (.baud data) s
      (byProfile s.cfg.domainProfile 1 data
        [u8In data 0 0 11])
    ∧ answersValidate (.pauseResumeStream data) s
      (byProfile s.cfg.domainProfile 1 data
        [u8In data 0 0 1])

/-- PWM_MOTORS, DRIVE_DIRECT and DRIVE_PWM under the two profiles. Under the default commands: 3, 4 and 4 data bytes;
under SOURCE any values; under EXTENDED the signed and unsigned domains of R142, the first field outside its own
reported. Lengths and domains are the spec's general knowledge and its own decision (D6, D7, D9; log 6). (Rests on:
40_command_catalog.md section 2, 40_command_catalog.md section 4) -/
def Obligations.MotorCommandsWithDomains : Prop :=
  ∀ (s : State) (data : List Byte), DefaultCommands s.cfg →
    answersValidate (.pwmMotors data) s
      (byProfile s.cfg.domainProfile 3 data
        [s8In data 0 (-127) 127, s8In data 1 (-127) 127, u8In data 2 0 127])
    ∧ answersValidate (.driveDirect data) s
      (byProfile s.cfg.domainProfile 4 data
        [s16In data 0 (-500) 500, s16In data 2 (-500) 500])
    ∧ answersValidate (.drivePwm data) s
      (byProfile s.cfg.domainProfile 4 data
        [s16In data 0 (-255) 255, s16In data 2 (-255) 255])

/-- DIGIT_LEDS_RAW and DIGIT_LEDS_ASCII under the two profiles. Under the default commands: 4 data bytes; under SOURCE
any values; under EXTENDED each digit in [0, 127] or in [32, 126], the first outside reported. Lengths and domains are
the spec's general knowledge and its own decision (D6, D7, D9; log 6). (Rests on: 40_command_catalog.md section 2,
40_command_catalog.md section 4) -/
def Obligations.DigitLedCommands : Prop :=
  ∀ (s : State) (data : List Byte), DefaultCommands s.cfg →
    answersValidate (.digitLedsRaw data) s
      (byProfile s.cfg.domainProfile 4 data
        [u8In data 0 0 127, u8In data 1 0 127, u8In data 2 0 127, u8In data 3 0 127])
    ∧ answersValidate (.digitLedsAscii data) s
      (byProfile s.cfg.domainProfile 4 data
        [u8In data 0 32 126, u8In data 1 32 126, u8In data 2 32 126, u8In data 3 32 126])

/-- SCHEDULE and SET_DAY_TIME under the two profiles. Under the default commands: 15 and 3 data bytes; under SOURCE
any values; under EXTENDED days to 127, hours to 23, minutes to 59, the day of SET_DAY_TIME to 6, the first field
outside reported. Lengths and domains are the spec's general knowledge and its own decision (D6, D7, D9; log 6).
(Rests on: 40_command_catalog.md section 2, 40_command_catalog.md section 4) -/
def Obligations.ScheduleCommands : Prop :=
  ∀ (s : State) (data : List Byte), DefaultCommands s.cfg →
    answersValidate (.schedule data) s
      (byProfile s.cfg.domainProfile 15 data
        [u8In data 0 0 127, u8In data 1 0 23, u8In data 2 0 59, u8In data 3 0 23, u8In data 4 0 59, u8In data 5 0 23,
         u8In data 6 0 59, u8In data 7 0 23, u8In data 8 0 59, u8In data 9 0 23, u8In data 10 0 59,
         u8In data 11 0 23, u8In data 12 0 59, u8In data 13 0 23, u8In data 14 0 59])
    ∧ answersValidate (.setDayTime data) s
      (byProfile s.cfg.domainProfile 3 data
        [u8In data 0 0 6, u8In data 1 0 23, u8In data 2 0 59])

/-- DECODE of an ID with no catalog entry. On every state, DECODE of an ID with no catalog entry answers
Error(UnknownPacket) whatever the buffer; under the default packets those IDs are 59..99, 102..105 and 108..255.
(Formalises: R284) -/
def Obligations.UnknownPackets : Prop :=
  ∀ (s : State) (id : Byte) (buf : List Byte),
    (packetSpec s.cfg id = none → answersDecode (.decode id buf) s (.error .unknownPacket))
    ∧ (DefaultPackets s.cfg → (packetSpec s.cfg id = none ↔
        (59 ≤ id.toNat ∧ id.toNat ≤ 99) ∨ (102 ≤ id.toNat ∧ id.toNat ≤ 105) ∨ 108 ≤ id.toNat))

/-- DECODE of a response of the wrong length. On every state and catalog, DECODE of a known ID with a buffer that is
shorter or longer than the ID's total width answers Error(StructuralLengthMismatch), code 3, and no record.
(Formalises: R285) -/
def Obligations.WrongResponseLength : Prop :=
  ∀ (s : State) (id : Byte) (spec : PacketSpec) (buf : List Byte), packetSpec s.cfg id = some spec →
    buf.length ≠ totalWidth s.cfg (membersOf id spec) →
    answersDecode (.decode id buf) s (.error .structuralLengthMismatch)
      ∧ ResultKind.structuralLengthMismatch.code = 3

/-- Where each member of a response stands, and its value. On every state and catalog, DECODE of a known ID with a
buffer of its total width answers a record with one pair for each member, in order; member k's value is LeafValue of
the bytes that begin at the sum of the widths of the members before it and are its own width, with nothing between
members, and the last ends at the end of the buffer. (Formalises: R282) -/
def Obligations.MembersStandOneAfterAnother : Prop :=
  ∀ (s : State) (id : Byte) (spec : PacketSpec) (buf : List Byte), packetSpec s.cfg id = some spec →
    buf.length = totalWidth s.cfg (membersOf id spec) →
    ∃ pairs : List Pair, answersDecode (.decode id buf) s (.record pairs)
      ∧ pairs.map (·.1) = membersOf id spec
      ∧ ∀ k m, (membersOf id spec)[k]? = some m →
          let at0 := totalWidth s.cfg ((membersOf id spec).take k)
          pairs[k]? = some (m, leafValue (leafWidth s.cfg m) (leafSigned s.cfg m)
            ((buf.drop at0).take (leafWidth s.cfg m)))
          ∧ (k + 1 = (membersOf id spec).length → at0 + leafWidth s.cfg m = buf.length)

/-- Round trip: decoding encoded values gives them back. For every admitted configuration, known ID and list of
values, one for each member and each in its member's range, DECODE of the encoded record answers the members with
those values. The spec marks this as derived (R287). (Rests on: 43_group_decoder.md, 95_test_vectors.md section 1) -/
def Obligations.DecodeOfEncodedRecord : Prop :=
  ∀ (s : State) (id : Byte) (spec : PacketSpec) (values : List Int), admitted s.cfg = true →
    packetSpec s.cfg id = some spec → values.length = (membersOf id spec).length →
    (∀ p ∈ (membersOf id spec).zip values, inRange (leafWidth s.cfg p.1) (leafSigned s.cfg p.1) p.2 = true) →
    answersDecode (.decode id (encodeRecord s.cfg (membersOf id spec) values)) s
      (.record ((membersOf id spec).zip values))

/-- Round trip: encoding decoded values gives the bytes back. For every admitted configuration, known ID and buffer of
its total width, DECODE answers a record whose values, all in their ranges, encode to that buffer. The spec marks this
as derived (R287). (Rests on: 43_group_decoder.md, 95_test_vectors.md section 1) -/
def Obligations.EncodeOfDecodedRecord : Prop :=
  ∀ (s : State) (id : Byte) (spec : PacketSpec) (buf : List Byte), admitted s.cfg = true →
    packetSpec s.cfg id = some spec → buf.length = totalWidth s.cfg (membersOf id spec) →
    ∃ pairs : List Pair, answersDecode (.decode id buf) s (.record pairs)
      ∧ encodeRecord s.cfg (membersOf id spec) (pairs.map (·.2)) = buf
      ∧ ∀ p ∈ pairs, inRange (leafWidth s.cfg p.1) (leafSigned s.cfg p.1) p.2 = true

/-- The unsigned 1-byte leaf packets. Under the default packets, packets 7, 8, 9, 10, 11, 12, 13, 14, 15, 16, 17, 18,
21, 32, 34, 35, 36, 37, 38, 45, 52, 53, 58 answer one pair, the ID and the byte, for a buffer of one byte, and
StructuralLengthMismatch for any other length; nothing else changes. The types are the spec's general knowledge and
its own decision (D11 to D13; log 6). (Rests on: 42_packet_catalog.md section 2) -/
def Obligations.UnsignedBytePackets : Prop :=
  ∀ (s : State) (buf : List Byte), DefaultPackets s.cfg →
    answersDecode (.pktBumpsWheelDrops buf) s (leaf1 7#8 u8Of buf)
    ∧ answersDecode (.pktWall buf) s (leaf1 8#8 u8Of buf)
    ∧ answersDecode (.pktCliffLeft buf) s (leaf1 9#8 u8Of buf)
    ∧ answersDecode (.pktCliffFrontLeft buf) s (leaf1 10#8 u8Of buf)
    ∧ answersDecode (.pktCliffFrontRight buf) s (leaf1 11#8 u8Of buf)
    ∧ answersDecode (.pktCliffRight buf) s (leaf1 12#8 u8Of buf)
    ∧ answersDecode (.pktVirtualWall buf) s (leaf1 13#8 u8Of buf)
    ∧ answersDecode (.pktWheelOvercurrents buf) s (leaf1 14#8 u8Of buf)
    ∧ answersDecode (.pktDirtDetect buf) s (leaf1 15#8 u8Of buf)
    ∧ answersDecode (.pktUnused16 buf) s (leaf1 16#8 u8Of buf)
    ∧ answersDecode (.pktIrOpcodeOmni buf) s (leaf1 17#8 u8Of buf)
    ∧ answersDecode (.pktButtons buf) s (leaf1 18#8 u8Of buf)
    ∧ answersDecode (.pktChargingState buf) s (leaf1 21#8 u8Of buf)
    ∧ answersDecode (.pktUnused32 buf) s (leaf1 32#8 u8Of buf)
    ∧ answersDecode (.pktChargingSourcesAvailable buf) s (leaf1 34#8 u8Of buf)
    ∧ answersDecode (.pktOiMode buf) s (leaf1 35#8 u8Of buf)
    ∧ answersDecode (.pktSongNumber buf) s (leaf1 36#8 u8Of buf)
    ∧ answersDecode (.pktSongPlaying buf) s (leaf1 37#8 u8Of buf)
    ∧ answersDecode (.pktNumberOfStreamPackets buf) s (leaf1 38#8 u8Of buf)
    ∧ answersDecode (.pktLightBumper buf) s (leaf1 45#8 u8Of buf)
    ∧ answersDecode (.pktIrOpcodeLeft buf) s (leaf1 52#8 u8Of buf)
    ∧ answersDecode (.pktIrOpcodeRight buf) s (leaf1 53#8 u8Of buf)
    ∧ answersDecode (.pktStasis buf) s (leaf1 58#8 u8Of buf)

/-- The unsigned 2-byte leaf packets. Under the default packets, packets 22, 25, 26, 27, 28, 29, 30, 31, 33, 46, 47,
48, 49, 50, 51 answer one pair, the ID and high byte * 256 + low byte, for a buffer of two bytes, and
StructuralLengthMismatch for any other length; nothing else changes. The types are the spec's general knowledge and
its own decision (D11 to D13; log 6). (Rests on: 42_packet_catalog.md section 2) -/
def Obligations.UnsignedWordPackets : Prop :=
  ∀ (s : State) (buf : List Byte), DefaultPackets s.cfg →
    answersDecode (.pktVoltage buf) s (leaf2 22#8 u16Of buf)
    ∧ answersDecode (.pktBatteryCharge buf) s (leaf2 25#8 u16Of buf)
    ∧ answersDecode (.pktBatteryCapacity buf) s (leaf2 26#8 u16Of buf)
    ∧ answersDecode (.pktWallSignal buf) s (leaf2 27#8 u16Of buf)
    ∧ answersDecode (.pktCliffLeftSignal buf) s (leaf2 28#8 u16Of buf)
    ∧ answersDecode (.pktCliffFrontLeftSignal buf) s (leaf2 29#8 u16Of buf)
    ∧ answersDecode (.pktCliffFrontRightSignal buf) s (leaf2 30#8 u16Of buf)
    ∧ answersDecode (.pktCliffRightSignal buf) s (leaf2 31#8 u16Of buf)
    ∧ answersDecode (.pktUnused33 buf) s (leaf2 33#8 u16Of buf)
    ∧ answersDecode (.pktLightBumpLeftSignal buf) s (leaf2 46#8 u16Of buf)
    ∧ answersDecode (.pktLightBumpFrontLeftSignal buf) s (leaf2 47#8 u16Of buf)
    ∧ answersDecode (.pktLightBumpCenterLeftSignal buf) s (leaf2 48#8 u16Of buf)
    ∧ answersDecode (.pktLightBumpCenterRightSignal buf) s (leaf2 49#8 u16Of buf)
    ∧ answersDecode (.pktLightBumpFrontRightSignal buf) s (leaf2 50#8 u16Of buf)
    ∧ answersDecode (.pktLightBumpRightSignal buf) s (leaf2 51#8 u16Of buf)

/-- The signed leaf packets. Under the default packets, packet 24 answers its byte in two's complement, and packets
19, 20, 23, 39, 40, 41, 42, 54, 55, 56, 57 their two bytes in two's complement, high byte first; any other length is
StructuralLengthMismatch; nothing else changes. The types are the spec's general knowledge and its own decision (D11
to D13; log 6). (Rests on: 42_packet_catalog.md section 2) -/
def Obligations.SignedPackets : Prop :=
  ∀ (s : State) (buf : List Byte), DefaultPackets s.cfg →
    answersDecode (.pktTemperature buf) s (leaf1 24#8 s8Of buf)
    ∧ answersDecode (.pktDistance buf) s (leaf2 19#8 s16Of buf)
    ∧ answersDecode (.pktAngle buf) s (leaf2 20#8 s16Of buf)
    ∧ answersDecode (.pktCurrent buf) s (leaf2 23#8 s16Of buf)
    ∧ answersDecode (.pktRequestedVelocity buf) s (leaf2 39#8 s16Of buf)
    ∧ answersDecode (.pktRequestedRadius buf) s (leaf2 40#8 s16Of buf)
    ∧ answersDecode (.pktRequestedRightVelocity buf) s (leaf2 41#8 s16Of buf)
    ∧ answersDecode (.pktRequestedLeftVelocity buf) s (leaf2 42#8 s16Of buf)
    ∧ answersDecode (.pktLeftMotorCurrent buf) s (leaf2 54#8 s16Of buf)
    ∧ answersDecode (.pktRightMotorCurrent buf) s (leaf2 55#8 s16Of buf)
    ∧ answersDecode (.pktMainBrushMotorCurrent buf) s (leaf2 56#8 s16Of buf)
    ∧ answersDecode (.pktSideBrushMotorCurrent buf) s (leaf2 57#8 s16Of buf)

/-- Packets 43 and 44 follow SIGNED_ENCODER_COUNTS. Under the default packets, packets 43 and 44 answer their two
bytes, high byte first, in two's complement when SIGNED_ENCODER_COUNTS is true and unsigned when it is false; any
other length is StructuralLengthMismatch. The parameter is the spec's own decision (R238, R239, D12; log 6). (Rests
on: 42_packet_catalog.md section 2) -/
def Obligations.EncoderPackets : Prop :=
  ∀ (s : State) (buf : List Byte), DefaultPackets s.cfg →
    answersDecode (.pktLeftEncoderCounts buf) s
      (leaf2 43#8 (if s.cfg.signedEncoderCounts then s16Of else u16Of) buf)
    ∧ answersDecode (.pktRightEncoderCounts buf) s
      (leaf2 44#8 (if s.cfg.signedEncoderCounts then s16Of else u16Of) buf)

/-- The eleven group packets, member by member at the offsets the spec lists. Under the default packets, each group
answers the list of its members with the values of their bytes at the offsets R254 to R264 list, for a buffer of
exactly its total width, and StructuralLengthMismatch for any other length; nothing else changes. The spec marks the
offsets as derived (R254 to R264); the widths and signs of the members (R202 to R253) are its general knowledge and
its own decision (D11, D12), and packets 43 and 44 have the sign of SIGNED_ENCODER_COUNTS (D12; log 6). (Rests on:
42_packet_catalog.md section 2, 42_packet_catalog.md section 3, 92_eei_decisions.md D11, 92_eei_decisions.md D12) -/
def Obligations.GroupPacketsAtTheirOffsets : Prop :=
  ∀ (s : State) (buf : List Byte), DefaultPackets s.cfg →
    answersDecode (.pktGroup0 buf) s (groupAnswer s.cfg.signedEncoderCounts 26 offsets0 buf)
    ∧ answersDecode (.pktGroup1 buf) s (groupAnswer s.cfg.signedEncoderCounts 10 offsets1 buf)
    ∧ answersDecode (.pktGroup2 buf) s (groupAnswer s.cfg.signedEncoderCounts 6 offsets2 buf)
    ∧ answersDecode (.pktGroup3 buf) s (groupAnswer s.cfg.signedEncoderCounts 10 offsets3 buf)
    ∧ answersDecode (.pktGroup4 buf) s (groupAnswer s.cfg.signedEncoderCounts 14 offsets4 buf)
    ∧ answersDecode (.pktGroup5 buf) s (groupAnswer s.cfg.signedEncoderCounts 12 offsets5 buf)
    ∧ answersDecode (.pktGroup6 buf) s (groupAnswer s.cfg.signedEncoderCounts 52 offsets6 buf)
    ∧ answersDecode (.pktGroup100 buf) s (groupAnswer s.cfg.signedEncoderCounts 80 offsets100 buf)
    ∧ answersDecode (.pktGroup101 buf) s (groupAnswer s.cfg.signedEncoderCounts 28 offsets101 buf)
    ∧ answersDecode (.pktGroup106 buf) s (groupAnswer s.cfg.signedEncoderCounts 12 offsets106 buf)
    ∧ answersDecode (.pktGroup107 buf) s (groupAnswer s.cfg.signedEncoderCounts 9 offsets107 buf)

/-- Group 0 is groups 1, 2, 3; group 6 is groups 0, 4, 5; group 100 is groups 6, 101. For every admitted
configuration: if the parts decode to records, the concatenated response of the larger group decodes to the
concatenated record. The spec marks this as derived (R254, R260, R261). (Rests on: 42_packet_catalog.md section 3) -/
def Obligations.GroupsAreConcatenations : Prop :=
  ∀ (s : State) (a b d : List Byte) (x y w : List Pair), admitted s.cfg = true →
    (answersDecode (.pktGroup1 a) s (.record x) → answersDecode (.pktGroup2 b) s (.record y) →
      answersDecode (.pktGroup3 d) s (.record w) → answersDecode (.pktGroup0 (a ++ b ++ d)) s (.record (x ++ y ++ w)))
    ∧ (answersDecode (.pktGroup0 a) s (.record x) → answersDecode (.pktGroup4 b) s (.record y) →
      answersDecode (.pktGroup5 d) s (.record w) → answersDecode (.pktGroup6 (a ++ b ++ d)) s (.record (x ++ y ++ w)))
    ∧ (answersDecode (.pktGroup6 a) s (.record x) → answersDecode (.pktGroup101 b) s (.record y) →
      answersDecode (.pktGroup100 (a ++ b)) s (.record (x ++ y)))
end

