-- ==== Sys2Proof/Laws/Numbers.lean ====
section
/-! SUPPORT. The numbers: byte sums and checksums, field values, and the encoding of a value. -/

namespace Sys2Proof.Machine

/-! ## Sums modulo 256 -/

@[simp] theorem addToSum_toNat (sum b : Byte) : (addToSum sum b).toNat = (sum.toNat + b.toNat) % 256 :=
  BitVec.toNat_add sum b

@[simp] theorem natSum_nil : natSum [] = 0 := rfl

@[simp] theorem natSum_cons (b : Byte) (bs : List Byte) : natSum (b :: bs) = b.toNat + natSum bs := rfl

@[simp] theorem natSum_append (as bs : List Byte) : natSum (as ++ bs) = natSum as + natSum bs := by
  simp [natSum]

/-- Changing one byte changes the sum by the difference. -/
theorem natSum_set {bs : List Byte} {k : Nat} {old : Byte} (b : Byte) (h : bs[k]? = some old) :
    natSum (bs.set k b) + old.toNat = natSum bs + b.toNat := by
  induction bs generalizing k with
  | nil => simp at h
  | cons x xs ih =>
    cases k with
    | zero => simp at h; subst h; simp; omega
    | succ k =>
      simp only [List.getElem?_cons_succ] at h
      have := ih h
      simp only [List.set_cons_succ, natSum_cons]
      omega

theorem foldl_addToSum_toNat (bs : List Byte) (sum : Byte) :
    (bs.foldl addToSum sum).toNat = (sum.toNat + natSum bs) % 256 := by
  induction bs generalizing sum with
  | nil => simp; omega
  | cons b bs ih =>
    rw [List.foldl_cons, ih, addToSum_toNat, natSum_cons]
    omega

/-- R29: the sum of a list of bytes, as a number. -/
theorem byteSum_toNat (bs : List Byte) : (byteSum bs).toNat = natSum bs % 256 := by
  simp [byteSum, foldl_addToSum_toNat]

/-- A sum that starts at `sum`. -/
theorem foldl_addToSum (bs : List Byte) (sum : Byte) : bs.foldl addToSum sum = sum + byteSum bs := by
  apply BitVec.eq_of_toNat_eq
  rw [BitVec.toNat_add, foldl_addToSum_toNat, byteSum_toNat]
  omega

/-- R29: the sum of header, length and payload, as a number. -/
theorem frameSum_toNat (n : Byte) (p : List Byte) : (frameSum n p).toNat = (19 + n.toNat + natSum p) % 256 := by
  simp only [frameSum, BitVec.toNat_add, byteSum_toNat, streamHeader]
  have : (19#8 : Byte).toNat = 19 := rfl
  omega

/-- R305: the frame passes when its sum, checksum included, is a multiple of 256. -/
theorem checksumPasses_iff (sum checksum : Byte) :
    checksumPasses sum checksum = true ↔ (sum.toNat + checksum.toNat) % 256 = 0 := by
  rw [checksumPasses, beq_iff_eq, ← BitVec.toNat_inj, addToSum_toNat]
  rfl

@[simp] theorem byte_toNat (n : Nat) : (byte n).toNat = n % 256 := BitVec.toNat_ofNat n 8

/-- R76: the checksum of a well-formed frame, as a number. -/
theorem checksumByte_toNat {p : List Byte} (h : p.length ≤ 255) :
    (checksumByte (byte p.length) p).toNat = goodChecksum p := by
  rw [checksumByte, byte_toNat, frameSum_toNat, byte_toNat, goodChecksum]
  omega

/-- R76, R307: the byte `c` completes the sum of the frame to a multiple of 256 exactly when it is the checksum. -/
theorem sum_zero_iff_goodChecksum (p : List Byte) (c : Byte) :
    (19 + p.length + natSum p + c.toNat) % 256 = 0 ↔ c.toNat = goodChecksum p := by
  have := c.isLt
  rw [goodChecksum]
  omega

/-! ## Big-endian values -/

theorem be_append_singleton (bs : List Byte) (b : Byte) : be (bs ++ [b]) = be bs * 256 + b.toNat := by
  simp [be]

@[simp] theorem be_one (b : Byte) : be [b] = b.toNat := by simp [be]

@[simp] theorem be_two (hi lo : Byte) : be [hi, lo] = hi.toNat * 256 + lo.toNat := by simp [be]

/-- An unsigned value is its pattern. -/
theorem patternValue_unsigned (w raw : Nat) : patternValue w false raw = (raw : Int) := rfl

/-- A signed one-byte value. -/
theorem patternValue_signed_one (raw : Nat) :
    patternValue 1 true raw = if raw < 128 then (raw : Int) else (raw : Int) - 256 := rfl

/-- A signed two-byte value. -/
theorem patternValue_signed_two (raw : Nat) :
    patternValue 2 true raw = if raw < 32768 then (raw : Int) else (raw : Int) - 65536 := rfl

/-- A list of bytes of length 1 is one byte, of length 2 two. -/
theorem bytes_of_width {w : Nat} (hw : w = 1 ∨ w = 2) {bs : List Byte} (h : bs.length = w) :
    (w = 1 ∧ ∃ b, bs = [b]) ∨ (w = 2 ∧ ∃ hi lo, bs = [hi, lo]) := by
  obtain rfl | rfl := hw
  · exact .inl ⟨rfl, List.length_eq_one_iff.1 h⟩
  · exact .inr ⟨rfl, List.length_eq_two.1 h⟩

/-! ## The encoding inverse (R287) -/

/-- Encoding gives as many bytes as the width says. -/
theorem encodeValue_length {w : Nat} (hw : w = 1 ∨ w = 2) (sg : Bool) (v : Int) : (encodeValue w sg v).length = w := by
  obtain rfl | rfl := hw <;> rfl

/-- R287: decoding an encoded value gives it back. -/
theorem leafValue_encodeValue {w : Nat} (hw : w = 1 ∨ w = 2) {sg : Bool} {v : Int} (h : inRange w sg v = true) :
    leafValue w sg (encodeValue w sg v) = v := by
  obtain rfl | rfl := hw <;> cases sg <;>
    simp [inRange, leafValue, encodeValue, patternValue_unsigned, patternValue_signed_one, patternValue_signed_two]
      at h ⊢ <;>
    (try split) <;> (try split) <;> omega

/-- R287: encoding a decoded value gives its bytes back. -/
theorem encodeValue_leafValue {w : Nat} (hw : w = 1 ∨ w = 2) (sg : Bool) {bs : List Byte} (h : bs.length = w) :
    encodeValue w sg (leafValue w sg bs) = bs := by
  obtain ⟨rfl, b, rfl⟩ | ⟨rfl, hi, lo, rfl⟩ := bytes_of_width hw h
  · have := b.isLt
    cases sg <;> simp [leafValue, encodeValue, patternValue_unsigned, patternValue_signed_one] <;>
      apply BitVec.eq_of_toNat_eq <;> simp <;> (try split) <;> (try split) <;> omega
  · have := hi.isLt
    have := lo.isLt
    cases sg <;> simp [leafValue, encodeValue, patternValue_unsigned, patternValue_signed_two] <;> constructor <;>
      apply BitVec.eq_of_toNat_eq <;> simp <;> (try split) <;> (try split) <;> omega

/-- A decoded value lies in the range of its type. -/
theorem inRange_leafValue {w : Nat} (hw : w = 1 ∨ w = 2) (sg : Bool) {bs : List Byte} (h : bs.length = w) :
    inRange w sg (leafValue w sg bs) = true := by
  obtain ⟨rfl, b, rfl⟩ | ⟨rfl, hi, lo, rfl⟩ := bytes_of_width hw h
  · have := b.isLt
    cases sg <;> simp [leafValue, inRange, patternValue_unsigned, patternValue_signed_one] <;> (try split) <;> omega
  · have := hi.isLt
    have := lo.isLt
    cases sg <;> simp [leafValue, inRange, patternValue_unsigned, patternValue_signed_two] <;> (try split) <;> omega

end Sys2Proof.Machine
end

