-- ==== Sys2Proof/Laws/Packets.lean ====
section
/-! SUPPORT. What the Packet Group Decoder does: the members of a response and their pairs. -/

namespace Sys2Proof.Machine

/-! ## Catalog lookups -/

/-- A leaf's width is the one its entry states. -/
theorem leafWidth_of_leaf {c : Config} {id : Byte} {name : String} {w : Nat} {sg : Bool}
    (h : packetSpec c id = some (.leaf name w sg)) : leafWidth c id = w := by
  simp only [leafWidth, h]

/-- A leaf's signedness is the one its entry states. -/
theorem leafSigned_of_leaf {c : Config} {id : Byte} {name : String} {w : Nat} {sg : Bool}
    (h : packetSpec c id = some (.leaf name w sg)) : leafSigned c id = sg := by
  simp only [leafSigned, h]

@[simp] theorem totalWidth_nil (c : Config) : totalWidth c [] = 0 := rfl

@[simp] theorem totalWidth_cons (c : Config) (m : Byte) (ms : List Byte) :
    totalWidth c (m :: ms) = leafWidth c m + totalWidth c ms := rfl

@[simp] theorem totalWidth_append (c : Config) (as bs : List Byte) :
    totalWidth c (as ++ bs) = totalWidth c as + totalWidth c bs := by
  simp [totalWidth]

/-! ## The pairs of the members -/

@[simp] theorem memberPairs_nil (c : Config) (buf : List Byte) (pos : Nat) : memberPairs c buf pos [] = [] := rfl

/-- The pair of the member at `pos`, then those of the rest. -/
theorem memberPairs_cons (c : Config) (buf : List Byte) (pos : Nat) (m : Byte) (ms : List Byte) :
    memberPairs c buf pos (m :: ms)
      = (m, leafValue (leafWidth c m) (leafSigned c m) (bytesAt buf pos (leafWidth c m)))
          :: memberPairs c buf (pos + leafWidth c m) ms := rfl

/-- One pair for each member, in order. -/
@[simp] theorem memberPairs_map_fst (c : Config) (buf : List Byte) (pos : Nat) (ms : List Byte) :
    (memberPairs c buf pos ms).map (·.1) = ms := by
  induction ms generalizing pos with
  | nil => rfl
  | cons m ms ih => simp [memberPairs_cons, ih]

@[simp] theorem memberPairs_length (c : Config) (buf : List Byte) (pos : Nat) (ms : List Byte) :
    (memberPairs c buf pos ms).length = ms.length := by
  rw [← List.length_map (·.1), memberPairs_map_fst]

/-- Member `k` stands after the members before it. -/
theorem memberPairs_getElem? (c : Config) (buf : List Byte) {ms : List Byte} {k : Nat} {m : Byte} (pos : Nat)
    (h : ms[k]? = some m) :
    (memberPairs c buf pos ms)[k]?
      = some (m, leafValue (leafWidth c m) (leafSigned c m)
          (bytesAt buf (pos + totalWidth c (ms.take k)) (leafWidth c m))) := by
  induction ms generalizing pos k with
  | nil => simp at h
  | cons x xs ih =>
    rw [memberPairs_cons]
    cases k with
    | zero => simp at h; subst h; simp
    | succ k =>
      simp only [List.getElem?_cons_succ] at h ⊢
      rw [ih _ h]
      simp [Nat.add_assoc]

/-- The members of two lists, one after the other. -/
theorem memberPairs_append (c : Config) (buf : List Byte) (pos : Nat) (as bs : List Byte) :
    memberPairs c buf pos (as ++ bs) = memberPairs c buf pos as ++ memberPairs c buf (pos + totalWidth c as) bs := by
  induction as generalizing pos with
  | nil => simp
  | cons m ms ih => simp [memberPairs_cons, ih, Nat.add_assoc]

/-- Only the bytes from `pos` on matter. -/
theorem memberPairs_drop (c : Config) (pre buf : List Byte) (pos : Nat) (ms : List Byte) :
    memberPairs c (pre ++ buf) (pre.length + pos) ms = memberPairs c buf pos ms := by
  induction ms generalizing pos with
  | nil => rfl
  | cons m ms ih =>
    rw [memberPairs_cons, memberPairs_cons, Nat.add_assoc, ih]
    simp [bytesAt, List.drop_append, List.drop_of_length_le (Nat.le_add_right pre.length pos)]

/-- Only the bytes the members cover matter. -/
theorem memberPairs_take (c : Config) (buf suf : List Byte) (pos : Nat) (ms : List Byte)
    (h : pos + totalWidth c ms ≤ buf.length) :
    memberPairs c (buf ++ suf) pos ms = memberPairs c buf pos ms := by
  induction ms generalizing pos with
  | nil => rfl
  | cons m ms ih =>
    rw [totalWidth_cons] at h
    rw [memberPairs_cons, memberPairs_cons, ih _ (by omega)]
    simp only [bytesAt]
    rw [List.drop_append_of_le_length (by omega), List.take_append_of_le_length (by simp; omega)]

/-! ## DECODE -/

/-- DECODE of an ID with no entry. -/
theorem decodeResponse_unknown {c : Config} {id : Byte} (h : packetSpec c id = none) (buf : List Byte) :
    decodeResponse c id buf = .error .unknownPacket := by
  simp only [decodeResponse, h, raiseDecode]

/-- DECODE of a known ID and a buffer of another length than its total width. -/
theorem decodeResponse_wrongLength {c : Config} {id : Byte} {spec : PacketSpec} (h : packetSpec c id = some spec)
    {buf : List Byte} (hl : buf.length ≠ totalWidth c (membersOf id spec)) :
    decodeResponse c id buf = .error .structuralLengthMismatch := by
  simp only [decodeResponse, h, decodeMembers, if_neg hl, raiseDecode]

/-- DECODE of a known ID and a buffer of its total width. -/
theorem decodeResponse_ok {c : Config} {id : Byte} {spec : PacketSpec} (h : packetSpec c id = some spec)
    {buf : List Byte} (hl : buf.length = totalWidth c (membersOf id spec)) :
    decodeResponse c id buf = .record (memberPairs c buf 0 (membersOf id spec)) := by
  simp only [decodeResponse, h, decodeMembers, if_pos hl]

/-- DECODE of a leaf. -/
theorem decodeResponse_leaf {c : Config} {id : Byte} {name : String} {w : Nat} {sg : Bool}
    (h : packetSpec c id = some (.leaf name w sg)) (buf : List Byte) :
    decodeResponse c id buf
      = if buf.length = w then .record [(id, leafValue w sg buf)] else .error .structuralLengthMismatch := by
  have hw := leafWidth_of_leaf h
  have hs := leafSigned_of_leaf h
  split
  · next hl =>
    rw [decodeResponse_ok h (by simp [membersOf, hw, hl])]
    simp [membersOf, memberPairs_cons, hw, hs, bytesAt, List.take_of_length_le (Nat.le_of_eq hl)]
  · next hl => exact decodeResponse_wrongLength h (by simpa [membersOf, hw] using hl)

end Sys2Proof.Machine
end

