-- ==== Sys2Proof/Laws/Catalog.lean ====
section
/-! SUPPORT. What admission gives (R140, R200, R455), and the entries of the default catalogs. -/

namespace Sys2Proof.Machine

/-! ## Admitted catalogs -/

/-- R455: both catalogs of an admitted configuration pass their check. -/
theorem admitted_iff {c : Config} : admitted c = true ↔ cmdCatalogWf c = true ∧ pktCatalogWf c = true :=
  Bool.and_eq_true _ _ ▸ Iff.rfl

/-- The two parts of the check on a command catalog. -/
theorem cmdCatalogWf_iff {c : Config} :
    cmdCatalogWf c = true ↔ (∀ op ∈ c.knownOpcodes, entriesOf c op = 1)
      ∧ ∀ e ∈ c.cmdCatalog, e.opcode ∈ c.knownOpcodes ∧ commandSpecWf (specUnder c.domainProfile e) = true := by
  simp only [cmdCatalogWf, entryWf, Bool.and_eq_true, List.all_eq_true, beq_iff_eq, List.contains_iff_mem]

/-- The parts of the check on a packet catalog. -/
theorem pktCatalogWf_iff {c : Config} :
    pktCatalogWf c = true ↔ (∀ id ∈ idRange 7 58, isLeaf12 c id = true) ∧ (∀ g ∈ rlibGroups, groupWf c g = true)
      ∧ (∀ e ∈ c.pktCatalog, hasPacketId e = true ∧ onlyEntry c e = true) ∧ exampleWidthWf c = true := by
  simp only [pktCatalogWf, Bool.and_eq_true, List.all_eq_true, and_assoc]

/-- The profile does not touch an entry's length rule. -/
@[simp] theorem specUnder_length (profile : DomainProfile) (e : CommandEntry) :
    (specUnder profile e).length = e.length := by
  cases profile <;> rfl

/-- What the catalog holds for an opcode is one of its entries, under the selected profile. -/
theorem commandSpec_entry {c : Config} {op : Byte} {spec : CommandSpec} (h : commandSpec c op = some spec) :
    ∃ e ∈ c.cmdCatalog, e.opcode = op ∧ specUnder c.domainProfile e = spec := by
  unfold commandSpec at h
  split at h
  · obtain ⟨e, he, hs⟩ := Option.map_eq_some_iff.1 h
    exact ⟨e, List.mem_of_find?_eq_some he, by simpa using List.find?_some he, hs⟩
  · cases h

/-- R140: what an entry of an admitted catalog declares is well formed. -/
theorem entry_of_admitted {c : Config} (ha : admitted c = true) {e : CommandEntry} (he : e ∈ c.cmdCatalog) :
    e.opcode ∈ c.knownOpcodes ∧ commandSpecWf (specUnder c.domainProfile e) = true :=
  (cmdCatalogWf_iff.1 (admitted_iff.1 ha).1).2 e he

/-- R140: what an admitted catalog declares for an opcode is well formed. -/
theorem commandSpecWf_of_admitted {c : Config} (ha : admitted c = true) {op : Byte} {spec : CommandSpec}
    (h : commandSpec c op = some spec) : commandSpecWf spec = true := by
  obtain ⟨e, he, -, rfl⟩ := commandSpec_entry h
  exact (entry_of_admitted ha he).2

/-- R140(e): two fields at different places in the list share no byte. -/
theorem fieldsApart_of_disjoint {fs : List Field} (h : fieldsDisjoint fs = true) {i j : Nat} {f g : Field}
    (hi : fs[i]? = some f) (hj : fs[j]? = some g) (hij : i < j) : fieldsApart f g = true := by
  induction fs generalizing i j with
  | nil => simp at hi
  | cons x xs ih =>
    simp only [fieldsDisjoint, Bool.and_eq_true, List.all_eq_true] at h
    obtain ⟨j, rfl⟩ : ∃ k, j = k + 1 := ⟨j - 1, by omega⟩
    simp only [List.getElem?_cons_succ] at hj
    cases i with
    | zero => simp at hi; exact hi ▸ h.1 g (List.mem_of_getElem? hj)
    | succ i => exact ih h.2 (by simpa using hi) hj (by omega)

/-- R200(a): an ID from 7 to 58 is a leaf of width 1 or 2 in every admitted catalog. -/
theorem leaf_of_admitted {c : Config} (ha : admitted c = true) {id : Byte} (h : id ∈ idRange 7 58) :
    ∃ name w sg, packetSpec c id = some (.leaf name w sg) ∧ (w = 1 ∨ w = 2) := by
  have := (pktCatalogWf_iff.1 (admitted_iff.1 ha).2).1 id h
  unfold isLeaf12 at this
  split at this
  · next name w sg hs => exact ⟨name, w, sg, hs, by simpa using this⟩
  · cases this

/-- R200(b), (c): RLIB's groups in every admitted catalog. -/
theorem group_of_admitted {c : Config} (ha : admitted c = true) {g : Byte × Nat × Nat × Nat} (h : g ∈ rlibGroups) :
    groupWf c g = true :=
  (pktCatalogWf_iff.1 (admitted_iff.1 ha).2).2.1 g h

/-- R200(b), (c): the members and the total of one of RLIB's groups. -/
theorem groupWf_iff {c : Config} {g : Byte × Nat × Nat × Nat} :
    groupWf c g = true
      ↔ packetSpec c g.1 = some (.group (idRange g.2.1 g.2.2.1)) ∧ totalWidth c (idRange g.2.1 g.2.2.1) = g.2.2.2 := by
  unfold groupWf
  split
  · next members hs => simp only [Bool.and_eq_true, beq_iff_eq, hs, Option.some.injEq, PacketSpec.group.injEq]
                       exact and_congr_right fun h => by rw [h]
  · next hs => exact ⟨nofun, fun h => absurd h.1 (hs _)⟩

/-- R265: packet 29 is a leaf of width 2. -/
theorem exampleWidthWf_iff {c : Config} :
    exampleWidthWf c = true ↔ ∃ name sg, packetSpec c 29#8 = some (.leaf name 2 sg) := by
  unfold exampleWidthWf
  split
  · next name w sg hs => simp [hs]
  · next hs => exact ⟨nofun, fun ⟨_, _, h⟩ => absurd h (hs _ _ _)⟩

/-- R200(d): an ID with an entry is a leaf ID or a group ID. -/
theorem id_of_admitted {c : Config} (ha : admitted c = true) {id : Byte} {spec : PacketSpec}
    (h : packetSpec c id = some spec) : id ∈ idRange 7 58 ∨ id ∈ rlibGroups.map (·.1) := by
  obtain ⟨e, he, -⟩ := Option.map_eq_some_iff.1 h
  have := ((pktCatalogWf_iff.1 (admitted_iff.1 ha).2).2.2.1 e (List.mem_of_find?_eq_some he)).1
  have hid : e.id = id := by simpa using List.find?_some he
  rw [hasPacketId, hid] at this
  simpa using this

/-- The IDs of a range. -/
theorem mem_idRange {first last : Nat} {m : Byte} :
    m ∈ idRange first last ↔ ∃ k, k < last + 1 - first ∧ byte (first + k) = m := by
  simp [idRange]

/-- A range inside another. -/
theorem idRange_subset {a b c d : Nat} (hc : c ≤ a) (hd : b ≤ d) {m : Byte} (h : m ∈ idRange a b) : m ∈ idRange c d := by
  obtain ⟨k, hk, rfl⟩ := mem_idRange.1 h
  exact mem_idRange.2 ⟨a + k - c, by omega, by rw [show c + (a + k - c) = a + k by omega]⟩

/-- The members of RLIB's groups are leaf IDs. -/
theorem groups_members_are_leaves {g : Byte × Nat × Nat × Nat} (hg : g ∈ rlibGroups) {m : Byte}
    (hm : m ∈ idRange g.2.1 g.2.2.1) : m ∈ idRange 7 58 := by
  have hb : ∀ g ∈ rlibGroups, 7 ≤ g.2.1 ∧ g.2.2.1 ≤ 58 := by decide
  exact idRange_subset (hb g hg).1 (hb g hg).2 hm

/-- Every member of a known packet of an admitted catalog is a leaf of width 1 or 2. -/
theorem member_of_admitted {c : Config} (ha : admitted c = true) {id : Byte} {spec : PacketSpec}
    (h : packetSpec c id = some spec) {m : Byte} (hm : m ∈ membersOf id spec) :
    leafWidth c m = 1 ∨ leafWidth c m = 2 := by
  have leaf : ∀ m ∈ idRange 7 58, leafWidth c m = 1 ∨ leafWidth c m = 2 := fun m hm => by
    obtain ⟨name, w, sg, hs, hw⟩ := leaf_of_admitted ha hm
    rw [leafWidth_of_leaf hs]
    exact hw
  obtain hid | hid := id_of_admitted ha h
  · obtain ⟨name, w, sg, hs, -⟩ := leaf_of_admitted ha hid
    rw [h] at hs
    cases hs
    rw [membersOf, List.mem_singleton] at hm
    exact leaf m (hm ▸ hid)
  · obtain ⟨g, hg, rfl⟩ := List.mem_map.1 hid
    have hw := group_of_admitted ha hg
    simp only [groupWf, h] at hw
    cases spec with
    | leaf => cases hw
    | group members =>
      simp only [Bool.and_eq_true, beq_iff_eq] at hw
      rw [membersOf, hw.1] at hm
      exact leaf m (groups_members_are_leaves hg hm)

/-! ## Admission, clause by clause -/

/-- Two fields that pass the check share no byte. -/
theorem not_covers_of_fieldsApart {f g : Field} (h : fieldsApart f g = true) (k : Nat) : ¬(Covers f k ∧ Covers g k) := by
  simp only [fieldsApart, Bool.or_eq_true, decide_eq_true_eq] at h
  rintro ⟨⟨h1, h2⟩, h3, h4⟩
  omega

/-- R140(b), (c): where the fields of a well-formed entry lie. -/
theorem fieldsPlaced_of_wf {spec : CommandSpec} (h : commandSpecWf spec = true) :
    FieldsPlaced spec.length spec.fields := by
  obtain ⟨mnemonic, len, fields⟩ := spec
  simp only [commandSpecWf, fieldWf, Bool.and_eq_true, List.all_eq_true, decide_eq_true_eq] at h
  cases len with
  | fixed k =>
    refine fun f hf => ⟨(h.1.2 f hf).1.1.1, ?_⟩
    have := (h.1.2 f hf).1.1.2
    simp only [lastFieldByte] at this
    omega
  | prefixed off base per =>
    refine ⟨by simpa only [lengthWf, Bool.and_eq_true, decide_eq_true_eq] using h.1.1, fun f hf =>
      ⟨(h.1.2 f hf).1.1.1, ?_⟩⟩
    have := (h.1.2 f hf).1.1.2
    simp only [lastFieldByte] at this
    omega

/-- R140: what admission gives of the command catalog. -/
theorem commandsWellFormed_of_admitted {c : Config} (ha : admitted c = true) : CommandsWellFormed c where
  oneEntry op hop := List.length_eq_one_iff.1 ((cmdCatalogWf_iff.1 (admitted_iff.1 ha).1).1 op hop)
  known _ he := (entry_of_admitted ha he).1
  placed e he := by
    have := fieldsPlaced_of_wf (entry_of_admitted ha he).2
    rwa [specUnder_length] at this
  ranges e he f hf := by
    have := (entry_of_admitted ha he).2
    simp only [commandSpecWf, fieldWf, Bool.and_eq_true, List.all_eq_true, Bool.or_eq_true, beq_iff_eq,
      decide_eq_true_eq] at this
    exact ⟨(this.1.2 f hf).1.2, (this.1.2 f hf).2⟩
  apart e he i j f g hij hf hg k := by
    have hd := (Bool.and_eq_true _ _ ▸ (entry_of_admitted ha he).2 : _ ∧ _).2
    obtain hlt | hlt := Nat.lt_or_gt_of_ne hij
    · exact not_covers_of_fieldsApart (fieldsApart_of_disjoint hd hf hg hlt) k
    · exact fun hc => not_covers_of_fieldsApart (fieldsApart_of_disjoint hd hg hf hlt) k hc.symm

/-- R266: every ID is a leaf ID, a group ID or one of the unknown ones. -/
theorem not_packetId_of_unknown {id : Byte}
    (h : (59 ≤ id.toNat ∧ id.toNat ≤ 99) ∨ (102 ≤ id.toNat ∧ id.toNat ≤ 105) ∨ 108 ≤ id.toNat) :
    id ∉ idRange 7 58 ∧ id ∉ rlibGroups.map (·.1) := by
  revert id
  decide +kernel

/-- A byte between two bounds is in their range. -/
theorem mem_idRange_of_le {first last : Nat} {id : Byte} (h1 : first ≤ id.toNat) (h2 : id.toNat ≤ last) :
    id ∈ idRange first last :=
  mem_idRange.2 ⟨id.toNat - first, by omega, by rw [Nat.add_sub_cancel' h1, byte]; simp⟩

/-- R200, R265: what admission gives of the packet catalog. -/
theorem packetsWellFormed_of_admitted {c : Config} (ha : admitted c = true) : PacketsWellFormed c where
  leaves id h1 h2 := leaf_of_admitted ha (mem_idRange_of_le h1 h2)
  groups _ hg := groupWf_iff.1 (group_of_admitted ha hg)
  others id h := by
    cases hs : packetSpec c id with
    | none => rfl
    | some spec => exact absurd (id_of_admitted ha hs) (not_or.2 (not_packetId_of_unknown h))
  oneEntry e he := by
    have := ((pktCatalogWf_iff.1 (admitted_iff.1 ha).2).2.2.1 e he).2
    obtain ⟨f, hf⟩ := List.length_eq_one_iff.1 (beq_iff_eq.1 this)
    have : e ∈ c.pktCatalog.filter fun f => f.id == e.id := by simp [he]
    rw [hf] at this ⊢
    rw [List.mem_singleton.1 this]
  packet29 := exampleWidthWf_iff.1 (pktCatalogWf_iff.1 (admitted_iff.1 ha).2).2.2.2

/-! ## The default catalogs -/

/-- The entry of an opcode in a catalog with the default commands. -/
theorem commandSpec_default {c : Config} (h : DefaultCommands c) {op : Byte} {e : CommandEntry}
    (hk : defaultKnownOpcodes.contains op = true) (he : defaultCmdCatalog.find? (fun e => e.opcode == op) = some e) :
    commandSpec c op = some (specUnder c.domainProfile e) := by
  rw [commandSpec, h.1, h.2, if_pos hk, he, Option.map_some]

/-- The entry of an ID in a catalog with the default packets. -/
theorem packetSpec_default {c : Config} (h : DefaultPackets c) {id : Byte} {e : PacketEntry}
    (he : defaultPktCatalog.find? (fun e => e.id == id) = some e) :
    packetSpec c id = some (applyEncoderSign c id e.spec) := by
  rw [packetSpec, h, he, Option.map_some]

end Sys2Proof.Machine
end

