-- ==== Sys2Proof/Laws/Decode.lean ====
section
/-! SUPPORT. The rows of the decoder. -/

namespace Sys2Proof

/-- A command row that is found is a row of the map with that opcode. -/
theorem commandRow_spec {op : Byte} {row : CommandRow} (h : commandRow op = some row) :
    row ∈ commandRows ∧ row.opcode = op :=
  ⟨List.mem_of_find?_eq_some h, by simpa using List.find?_some h⟩

/-- A packet row that is found is a row of the map with that ID. -/
theorem packetRow_spec {id : Byte} {row : PacketRow} (h : packetRow id = some row) :
    row ∈ packetRows ∧ row.id = id :=
  ⟨List.mem_of_find?_eq_some h, by simpa using List.find?_some h⟩

/-- The opcodes with a row. -/
theorem commandRow_isSome (op : Byte) : (commandRow op).isSome = commandOpcodes.contains op := by
  revert op; decide +kernel

/-- The IDs with a row. -/
theorem packetRow_isSome (id : Byte) : (packetRow id).isSome = packetIds.contains id := by
  revert id; decide +kernel

/-- Every command row makes a well-formed instruction whose word is the row's opcode and the data. -/
theorem commandRow_make : ∀ row ∈ commandRows, ∀ data, (row.make data).wellFormed = true
    ∧ encode (row.make data) = commandWord row.opcode data := by
  simp only [commandRows, List.forall_mem_cons, List.not_mem_nil, false_implies, implies_true, and_true]
  repeat' apply And.intro
  all_goals exact fun _ => ⟨rfl, rfl⟩

/-- Every packet row makes a well-formed instruction whose word is the row's ID and the buffer. -/
theorem packetRow_make : ∀ row ∈ packetRows, ∀ buf, (row.make buf).wellFormed = true
    ∧ encode (row.make buf) = packetWord row.id buf := by
  simp only [packetRows, leafRows, groupRows, List.cons_append, List.nil_append, List.forall_mem_cons, List.not_mem_nil,
    false_implies, implies_true, and_true]
  repeat' apply And.intro
  all_goals exact fun _ => ⟨rfl, rfl⟩

end Sys2Proof
end

