-- ==== Sys2Proof/Laws/State.lean ====
section
/-! SUPPORT. One lemma per field per update of the state, so that no proof unfolds a record update. -/

namespace Sys2Proof.Machine

/-! ## issueFirst -/

@[simp] theorem issueFirst_cfg (word : List Byte) (s : State) : (issueFirst word s).cfg = s.cfg := rfl
@[simp] theorem issueFirst_sState (word : List Byte) (s : State) : (issueFirst word s).sState = s.sState := rfl
@[simp] theorem issueFirst_sLen (word : List Byte) (s : State) : (issueFirst word s).sLen = s.sLen := rfl
@[simp] theorem issueFirst_sPayload (word : List Byte) (s : State) : (issueFirst word s).sPayload = s.sPayload := rfl
@[simp] theorem issueFirst_sSum (word : List Byte) (s : State) : (issueFirst word s).sSum = s.sSum := rfl
@[simp] theorem issueFirst_port (word : List Byte) (s : State) : (issueFirst word s).port = word :: s.port := rfl
@[simp] theorem issueFirst_outputs (word : List Byte) (s : State) : (issueFirst word s).outputs = s.outputs := rfl

/-! ## giveOutput -/

@[simp] theorem giveOutput_cfg (o : Output) (s : State) : (giveOutput o s).cfg = s.cfg := rfl
@[simp] theorem giveOutput_sState (o : Output) (s : State) : (giveOutput o s).sState = s.sState := rfl
@[simp] theorem giveOutput_sLen (o : Output) (s : State) : (giveOutput o s).sLen = s.sLen := rfl
@[simp] theorem giveOutput_sPayload (o : Output) (s : State) : (giveOutput o s).sPayload = s.sPayload := rfl
@[simp] theorem giveOutput_sSum (o : Output) (s : State) : (giveOutput o s).sSum = s.sSum := rfl
@[simp] theorem giveOutput_port (o : Output) (s : State) : (giveOutput o s).port = s.port := rfl
@[simp] theorem giveOutput_outputs (o : Output) (s : State) : (giveOutput o s).outputs = s.outputs ++ [o] := rfl

/-! ## memWrite -/

@[simp] theorem memWrite_cfg (addr : Nat) (v : Byte) (s : State) : (memWrite addr v s).cfg = s.cfg := rfl
@[simp] theorem memWrite_sState (addr : Nat) (v : Byte) (s : State) : (memWrite addr v s).sState = s.sState := rfl
@[simp] theorem memWrite_sLen (addr : Nat) (v : Byte) (s : State) : (memWrite addr v s).sLen = s.sLen := rfl
@[simp] theorem memWrite_sPayload (addr : Nat) (v : Byte) (s : State) : (memWrite addr v s).sPayload = s.sPayload.take addr ++ v :: s.sPayload.drop (addr + 1) := rfl
@[simp] theorem memWrite_sSum (addr : Nat) (v : Byte) (s : State) : (memWrite addr v s).sSum = s.sSum := rfl
@[simp] theorem memWrite_port (addr : Nat) (v : Byte) (s : State) : (memWrite addr v s).port = s.port := rfl
@[simp] theorem memWrite_outputs (addr : Nat) (v : Byte) (s : State) : (memWrite addr v s).outputs = s.outputs := rfl

/-! ## goTo -/

@[simp] theorem goTo_cfg (t : ScanState) (s : State) : (goTo t s).cfg = s.cfg := rfl
@[simp] theorem goTo_sState (t : ScanState) (s : State) : (goTo t s).sState = t := rfl
@[simp] theorem goTo_sLen (t : ScanState) (s : State) : (goTo t s).sLen = s.sLen := rfl
@[simp] theorem goTo_sPayload (t : ScanState) (s : State) : (goTo t s).sPayload = s.sPayload := rfl
@[simp] theorem goTo_sSum (t : ScanState) (s : State) : (goTo t s).sSum = s.sSum := rfl
@[simp] theorem goTo_port (t : ScanState) (s : State) : (goTo t s).port = s.port := rfl
@[simp] theorem goTo_outputs (t : ScanState) (s : State) : (goTo t s).outputs = s.outputs := rfl

/-! ## clearFrame -/

@[simp] theorem clearFrame_cfg (s : State) : (clearFrame s).cfg = s.cfg := rfl
@[simp] theorem clearFrame_sState (s : State) : (clearFrame s).sState = s.sState := rfl
@[simp] theorem clearFrame_sLen (s : State) : (clearFrame s).sLen = 0#8 := rfl
@[simp] theorem clearFrame_sPayload (s : State) : (clearFrame s).sPayload = [] := rfl
@[simp] theorem clearFrame_sSum (s : State) : (clearFrame s).sSum = 0#8 := rfl
@[simp] theorem clearFrame_port (s : State) : (clearFrame s).port = s.port := rfl
@[simp] theorem clearFrame_outputs (s : State) : (clearFrame s).outputs = s.outputs := rfl

/-! ## resetUnit -/

@[simp] theorem resetUnit_cfg (s : State) : (resetUnit s).cfg = s.cfg := rfl
@[simp] theorem resetUnit_sState (s : State) : (resetUnit s).sState = .seekHeader := rfl
@[simp] theorem resetUnit_sLen (s : State) : (resetUnit s).sLen = 0#8 := rfl
@[simp] theorem resetUnit_sPayload (s : State) : (resetUnit s).sPayload = [] := rfl
@[simp] theorem resetUnit_sSum (s : State) : (resetUnit s).sSum = 0#8 := rfl
@[simp] theorem resetUnit_port (s : State) : (resetUnit s).port = s.port := rfl
@[simp] theorem resetUnit_outputs (s : State) : (resetUnit s).outputs = s.outputs := rfl

/-! ## addSum -/

@[simp] theorem addSum_cfg (b : Byte) (s : State) : (addSum b s).cfg = s.cfg := rfl
@[simp] theorem addSum_sState (b : Byte) (s : State) : (addSum b s).sState = s.sState := rfl
@[simp] theorem addSum_sLen (b : Byte) (s : State) : (addSum b s).sLen = s.sLen := rfl
@[simp] theorem addSum_sPayload (b : Byte) (s : State) : (addSum b s).sPayload = s.sPayload := rfl
@[simp] theorem addSum_sSum (b : Byte) (s : State) : (addSum b s).sSum = addToSum s.sSum b := rfl
@[simp] theorem addSum_port (b : Byte) (s : State) : (addSum b s).port = s.port := rfl
@[simp] theorem addSum_outputs (b : Byte) (s : State) : (addSum b s).outputs = s.outputs := rfl

/-! ## withEvents -/

@[simp] theorem withEvents_cfg (evs : List StreamEvent) (s : State) : (withEvents evs s).cfg = s.cfg := rfl
@[simp] theorem withEvents_sState (evs : List StreamEvent) (s : State) : (withEvents evs s).sState = s.sState := rfl
@[simp] theorem withEvents_sLen (evs : List StreamEvent) (s : State) : (withEvents evs s).sLen = s.sLen := rfl
@[simp] theorem withEvents_sPayload (evs : List StreamEvent) (s : State) : (withEvents evs s).sPayload = s.sPayload := rfl
@[simp] theorem withEvents_sSum (evs : List StreamEvent) (s : State) : (withEvents evs s).sSum = s.sSum := rfl
@[simp] theorem withEvents_port (evs : List StreamEvent) (s : State) : (withEvents evs s).port = s.port := rfl
@[simp] theorem withEvents_outputs (evs : List StreamEvent) (s : State) : (withEvents evs s).outputs = s.outputs ++ evs.map .streamed := rfl

/-! ## fresh, reset and withFetchWord -/

@[simp] theorem State.fresh_cfg (c : Config) : (State.fresh c).cfg = c := rfl
@[simp] theorem State.fresh_sState (c : Config) : (State.fresh c).sState = .seekHeader := rfl
@[simp] theorem State.fresh_sLen (c : Config) : (State.fresh c).sLen = 0#8 := rfl
@[simp] theorem State.fresh_sPayload (c : Config) : (State.fresh c).sPayload = [] := rfl
@[simp] theorem State.fresh_sSum (c : Config) : (State.fresh c).sSum = 0#8 := rfl
@[simp] theorem State.fresh_port (c : Config) : (State.fresh c).port = [] := rfl
@[simp] theorem State.fresh_outputs (c : Config) : (State.fresh c).outputs = [] := rfl
@[simp] theorem State.reset_cfg : State.reset.cfg = defaultConfig := rfl
@[simp] theorem State.reset_sState : State.reset.sState = .seekHeader := rfl
@[simp] theorem State.reset_sLen : State.reset.sLen = 0#8 := rfl
@[simp] theorem State.reset_sPayload : State.reset.sPayload = [] := rfl
@[simp] theorem State.reset_sSum : State.reset.sSum = 0#8 := rfl
@[simp] theorem State.reset_port : State.reset.port = [] := rfl
@[simp] theorem State.reset_outputs : State.reset.outputs = [] := rfl
@[simp] theorem State.withFetchWord_cfg (s : State) (nbits w : Nat) :
    (s.withFetchWord nbits w).cfg = s.cfg := rfl
@[simp] theorem State.withFetchWord_sState (s : State) (nbits w : Nat) :
    (s.withFetchWord nbits w).sState = s.sState := rfl
@[simp] theorem State.withFetchWord_sLen (s : State) (nbits w : Nat) :
    (s.withFetchWord nbits w).sLen = s.sLen := rfl
@[simp] theorem State.withFetchWord_sPayload (s : State) (nbits w : Nat) :
    (s.withFetchWord nbits w).sPayload = s.sPayload := rfl
@[simp] theorem State.withFetchWord_sSum (s : State) (nbits w : Nat) :
    (s.withFetchWord nbits w).sSum = s.sSum := rfl
@[simp] theorem State.withFetchWord_port (s : State) (nbits w : Nat) :
    (s.withFetchWord nbits w).port = tableTransaction nbits w :: s.port := rfl
@[simp] theorem State.withFetchWord_outputs (s : State) (nbits w : Nat) :
    (s.withFetchWord nbits w).outputs = s.outputs := rfl

/-! ## takeTransaction -/

/-- With nothing issued there is nothing to take. -/
theorem takeTransaction_of_empty {s : State} (h : s.port = []) : takeTransaction s = none := by
  simp only [takeTransaction, h]

/-- The oldest transaction is taken, and only the port changes. -/
theorem takeTransaction_of_cons {s : State} {word : List Byte} {rest : List (List Byte)} (h : s.port = word :: rest) :
    takeTransaction s = some (word, { s with port := rest }) := by
  simp only [takeTransaction, h]

/-- What was issued first is taken first. -/
@[simp] theorem takeTransaction_issueFirst (word : List Byte) (s : State) :
    takeTransaction (issueFirst word s) = some (word, s) := rfl

end Sys2Proof.Machine
end

