-- ==== Sys2Proof/Laws/Ops.lean ====
section
/-! SUPPORT. One lemma for each shared operation that says all it can do. -/

namespace Sys2Proof.Machine

/-! ## The four operations of the block -/

/-- VALIDATE gives one result back and changes nothing else. -/
theorem runValidate_spec {buf : List Byte} {s s' : State} (h : runValidate buf s = .next s') :
    s' = giveOutput (.validated (validateBuffer s.cfg buf)) s := by
  cases h; rfl

/-- DECODE gives one result back and changes nothing else. -/
theorem runDecode_spec {id : Byte} {buf : List Byte} {s s' : State} (h : runDecode id buf s = .next s') :
    s' = giveOutput (.decoded (decodeResponse s.cfg id buf)) s := by
  cases h; rfl

/-- STREAM_STEP is the step on its byte, or passes the error of the source on and resets the unit. -/
theorem runStreamStep_spec {ev : SourceEvent} {s s' : State} (h : runStreamStep ev s = .next s') :
    (∃ b, ev = .byte b ∧ s' = byteStep b s)
    ∨ (ev = .ioError ∧ s' = giveOutput (.streamed .ioError) (resetUnit s))
    ∨ (ev = .endOfStream ∧ s' = giveOutput (.streamed .endOfStream) (resetUnit s)) := by
  cases ev <;> cases h
  · exact .inl ⟨_, rfl, rfl⟩
  · exact .inr (.inl ⟨rfl, rfl⟩)
  · exact .inr (.inr ⟨rfl, rfl⟩)

/-- STREAM_RESET resets the unit and changes nothing else. -/
theorem runStreamReset_spec {s s' : State} (h : runStreamReset s = .next s') : s' = resetUnit s := by
  cases h; rfl

/-! ## The step on a byte, state by state -/

/-- The byte at `s_count` is appended. -/
theorem memWrite_at_count (b : Byte) (s : State) : memWrite (sCount s) b s = { s with sPayload := s.sPayload ++ [b] } := by
  simp [memWrite, sCount]

/-- SEEK_HEADER on a header. -/
theorem seekHeaderStep_header (s : State) :
    seekHeaderStep 19#8 s = { s with sState := .readLength, sSum := 19#8, sPayload := [] } := rfl

/-- SEEK_HEADER on any other byte. -/
theorem seekHeaderStep_other {b : Byte} (h : b ≠ 19#8) (s : State) : seekHeaderStep b s = s := if_neg h

/-- READ_LENGTH. -/
theorem readLengthStep_eq (b : Byte) (s : State) :
    readLengthStep b s
      = { s with sState := if b = 0#8 then .readChecksum else .accumPayload, sLen := b, sSum := s.sSum + b } := rfl

/-- ACCUM_PAYLOAD. -/
theorem accumPayloadStep_eq (b : Byte) (s : State) :
    accumPayloadStep b s
      = { s with sState := if s.sPayload.length + 1 = s.sLen.toNat then .readChecksum else s.sState,
                 sPayload := s.sPayload ++ [b], sSum := s.sSum + b } := by
  rw [accumPayloadStep, memWrite_at_count]
  simp only [afterAppend, addSum, sCount, goTo, addToSum, List.length_append, List.length_singleton]
  split <;> rfl

/-- All that the step on a byte can do. -/
theorem byteStep_cases (b : Byte) (s : State) :
    (s.sState = .seekHeader ∧ b = 19#8 ∧
      byteStep b s = giveOutput (.streamed .none) { s with sState := .readLength, sSum := 19#8, sPayload := [] })
    ∨ (s.sState = .seekHeader ∧ b ≠ 19#8 ∧ byteStep b s = giveOutput (.streamed .none) s)
    ∨ (s.sState = .readLength ∧ byteStep b s = giveOutput (.streamed .none)
        { s with sState := if b = 0#8 then .readChecksum else .accumPayload, sLen := b, sSum := s.sSum + b })
    ∨ (s.sState = .accumPayload ∧ byteStep b s = giveOutput (.streamed .none)
        { s with sState := if s.sPayload.length + 1 = s.sLen.toNat then .readChecksum else .accumPayload,
                 sPayload := s.sPayload ++ [b], sSum := s.sSum + b })
    ∨ (s.sState = .readChecksum ∧
        byteStep b s = giveOutput (.streamed (frameOutcome s.cfg s.sSum s.sPayload b)) (resetUnit s)) := by
  unfold byteStep
  cases hs : s.sState
  · by_cases hb : b = 19#8
    · subst hb; simp [seekHeaderStep_header]
    · simp [hb, seekHeaderStep_other hb]
  · simp [readLengthStep_eq]
  · simp [accumPayloadStep_eq, hs]
  · simp

/-- The event of the checksum step is never None, nor an error of the source. -/
theorem frameOutcome_cases (c : Config) (sum : Byte) (payload : List Byte) (checksum : Byte) :
    (checksumPasses sum checksum = false ∧ frameOutcome c sum payload checksum = .checksumFailure)
    ∨ (checksumPasses sum checksum = true ∧ demux c payload = none
        ∧ frameOutcome c sum payload checksum = .framingDesync)
    ∨ (checksumPasses sum checksum = true ∧ ∃ pairs, demux c payload = some pairs
        ∧ frameOutcome c sum payload checksum = .frame pairs) := by
  unfold frameOutcome
  cases hp : checksumPasses sum checksum
  · simp
  · cases hd : demux c payload <;> simp

/-- A step on a byte writes neither the catalogs nor the port, and gives one event. -/
theorem byteStep_frame (b : Byte) (s : State) :
    (byteStep b s).cfg = s.cfg ∧ (byteStep b s).port = s.port
      ∧ ∃ out, (byteStep b s).outputs = s.outputs ++ [.streamed out] := by
  obtain ⟨-, -, h⟩ | ⟨-, -, h⟩ | ⟨-, h⟩ | ⟨-, h⟩ | ⟨-, h⟩ := byteStep_cases b s <;>
    exact h ▸ ⟨rfl, rfl, _, rfl⟩

/-! ## One step of the machine -/

/-- A step that answers a next state waited, or ran the transaction at the head of the port. -/
theorem step_next {s t : State} (h : step s = .next t) :
    (s.port = [] ∧ t = s)
    ∨ ∃ word rest i, s.port = word :: rest ∧ decode word = .ok i ∧ exec i { s with port := rest } = .next t := by
  unfold step at h
  cases hp : s.port with
  | nil => rw [takeTransaction_of_empty hp] at h; cases h; exact .inl ⟨rfl, rfl⟩
  | cons word rest =>
    rw [takeTransaction_of_cons hp] at h
    cases hd : decode word with
    | error why => simp only [hd] at h; cases h
    | ok i => exact .inr ⟨word, rest, i, rfl, hd, by simpa only [hd] using h⟩

/-- Every instruction is one of the four operations. -/
theorem exec_cases (i : Instr) (s : State) :
    (∃ buf, exec i s = runValidate buf s) ∨ (∃ id buf, exec i s = runDecode id buf s)
    ∨ (∃ ev, i = .streamStep ev ∧ exec i s = runStreamStep ev s)
    ∨ (i = .streamReset ∧ exec i s = runStreamReset s) := by
  cases i <;> first
    | exact .inl ⟨_, rfl⟩
    | exact .inr (.inl ⟨_, _, rfl⟩)
    | exact .inr (.inr (.inl ⟨_, rfl, rfl⟩))
    | exact .inr (.inr (.inr ⟨rfl, rfl⟩))

end Sys2Proof.Machine
end

