-- ==== Sys2Proof/Laws/PerInstr.lean ====
section
/-! SUPPORT. What holds of every instruction as syntax, one lemma per constructor. -/

open Sys2Proof

/-- R82: the bytes of a transaction have one of the four shapes of the host transaction interface: selector 0 and a buffer,
selector 1 with an ID and a buffer, selector 2 and a source event, or selector 3 alone. -/
def Sys2Proof.Laws.PortForm.Statement (i : Instr) : Prop :=
  (∃ buf, encode i = 0#8 :: buf) ∨ (∃ id buf, encode i = 1#8 :: id :: buf)
    ∨ (∃ b, encode i = [2#8, 0#8, b]) ∨ encode i = [2#8, 1#8] ∨ encode i = [2#8, 2#8] ∨ encode i = [3#8]

theorem Sys2Proof.Laws.PortForm.validate (buf : List Byte) :
    Statement (.validate buf) := .inl ⟨buf, rfl⟩

theorem Sys2Proof.Laws.PortForm.decode (id : Byte) (buf : List Byte) :
    Statement (.decode id buf) := .inr (.inl ⟨id, buf, rfl⟩)

theorem Sys2Proof.Laws.PortForm.streamStep (ev : SourceEvent) : Statement (.streamStep ev) := by
  cases ev
  · exact .inr (.inr (.inl ⟨_, rfl⟩))
  · exact .inr (.inr (.inr (.inl rfl)))
  · exact .inr (.inr (.inr (.inr (.inl rfl))))

theorem Sys2Proof.Laws.PortForm.streamReset : Statement .streamReset :=
  .inr (.inr (.inr (.inr (.inr rfl))))

theorem Sys2Proof.Laws.PortForm.reset (data : List Byte) :
    Statement (.reset data) := .inl ⟨_ :: data, rfl⟩

theorem Sys2Proof.Laws.PortForm.start (data : List Byte) :
    Statement (.start data) := .inl ⟨_ :: data, rfl⟩

theorem Sys2Proof.Laws.PortForm.baud (data : List Byte) :
    Statement (.baud data) := .inl ⟨_ :: data, rfl⟩

theorem Sys2Proof.Laws.PortForm.control (data : List Byte) :
    Statement (.control data) := .inl ⟨_ :: data, rfl⟩

theorem Sys2Proof.Laws.PortForm.safe (data : List Byte) :
    Statement (.safe data) := .inl ⟨_ :: data, rfl⟩

theorem Sys2Proof.Laws.PortForm.full (data : List Byte) :
    Statement (.full data) := .inl ⟨_ :: data, rfl⟩

theorem Sys2Proof.Laws.PortForm.power (data : List Byte) :
    Statement (.power data) := .inl ⟨_ :: data, rfl⟩

theorem Sys2Proof.Laws.PortForm.spot (data : List Byte) :
    Statement (.spot data) := .inl ⟨_ :: data, rfl⟩

theorem Sys2Proof.Laws.PortForm.clean (data : List Byte) :
    Statement (.clean data) := .inl ⟨_ :: data, rfl⟩

theorem Sys2Proof.Laws.PortForm.max (data : List Byte) :
    Statement (.max data) := .inl ⟨_ :: data, rfl⟩

theorem Sys2Proof.Laws.PortForm.drive (data : List Byte) :
    Statement (.drive data) := .inl ⟨_ :: data, rfl⟩

theorem Sys2Proof.Laws.PortForm.motors (data : List Byte) :
    Statement (.motors data) := .inl ⟨_ :: data, rfl⟩

theorem Sys2Proof.Laws.PortForm.leds (data : List Byte) :
    Statement (.leds data) := .inl ⟨_ :: data, rfl⟩

theorem Sys2Proof.Laws.PortForm.song (data : List Byte) :
    Statement (.song data) := .inl ⟨_ :: data, rfl⟩

theorem Sys2Proof.Laws.PortForm.play (data : List Byte) :
    Statement (.play data) := .inl ⟨_ :: data, rfl⟩

theorem Sys2Proof.Laws.PortForm.sensors (data : List Byte) :
    Statement (.sensors data) := .inl ⟨_ :: data, rfl⟩

theorem Sys2Proof.Laws.PortForm.seekDock (data : List Byte) :
    Statement (.seekDock data) := .inl ⟨_ :: data, rfl⟩

theorem Sys2Proof.Laws.PortForm.pwmMotors (data : List Byte) :
    Statement (.pwmMotors data) := .inl ⟨_ :: data, rfl⟩

theorem Sys2Proof.Laws.PortForm.driveDirect (data : List Byte) :
    Statement (.driveDirect data) := .inl ⟨_ :: data, rfl⟩

theorem Sys2Proof.Laws.PortForm.drivePwm (data : List Byte) :
    Statement (.drivePwm data) := .inl ⟨_ :: data, rfl⟩

theorem Sys2Proof.Laws.PortForm.digitalOutputs (data : List Byte) :
    Statement (.digitalOutputs data) := .inl ⟨_ :: data, rfl⟩

theorem Sys2Proof.Laws.PortForm.stream (data : List Byte) :
    Statement (.stream data) := .inl ⟨_ :: data, rfl⟩

theorem Sys2Proof.Laws.PortForm.queryList (data : List Byte) :
    Statement (.queryList data) := .inl ⟨_ :: data, rfl⟩

theorem Sys2Proof.Laws.PortForm.pauseResumeStream (data : List Byte) :
    Statement (.pauseResumeStream data) := .inl ⟨_ :: data, rfl⟩

theorem Sys2Proof.Laws.PortForm.sendIr (data : List Byte) :
    Statement (.sendIr data) := .inl ⟨_ :: data, rfl⟩

theorem Sys2Proof.Laws.PortForm.script (data : List Byte) :
    Statement (.script data) := .inl ⟨_ :: data, rfl⟩

theorem Sys2Proof.Laws.PortForm.playScript (data : List Byte) :
    Statement (.playScript data) := .inl ⟨_ :: data, rfl⟩

theorem Sys2Proof.Laws.PortForm.showScript (data : List Byte) :
    Statement (.showScript data) := .inl ⟨_ :: data, rfl⟩

theorem Sys2Proof.Laws.PortForm.waitTime (data : List Byte) :
    Statement (.waitTime data) := .inl ⟨_ :: data, rfl⟩

theorem Sys2Proof.Laws.PortForm.waitDistance (data : List Byte) :
    Statement (.waitDistance data) := .inl ⟨_ :: data, rfl⟩

theorem Sys2Proof.Laws.PortForm.waitAngle (data : List Byte) :
    Statement (.waitAngle data) := .inl ⟨_ :: data, rfl⟩

theorem Sys2Proof.Laws.PortForm.waitEvent (data : List Byte) :
    Statement (.waitEvent data) := .inl ⟨_ :: data, rfl⟩

theorem Sys2Proof.Laws.PortForm.schedulingLeds (data : List Byte) :
    Statement (.schedulingLeds data) := .inl ⟨_ :: data, rfl⟩

theorem Sys2Proof.Laws.PortForm.digitLedsRaw (data : List Byte) :
    Statement (.digitLedsRaw data) := .inl ⟨_ :: data, rfl⟩

theorem Sys2Proof.Laws.PortForm.digitLedsAscii (data : List Byte) :
    Statement (.digitLedsAscii data) := .inl ⟨_ :: data, rfl⟩

theorem Sys2Proof.Laws.PortForm.buttons (data : List Byte) :
    Statement (.buttons data) := .inl ⟨_ :: data, rfl⟩

theorem Sys2Proof.Laws.PortForm.schedule (data : List Byte) :
    Statement (.schedule data) := .inl ⟨_ :: data, rfl⟩

theorem Sys2Proof.Laws.PortForm.setDayTime (data : List Byte) :
    Statement (.setDayTime data) := .inl ⟨_ :: data, rfl⟩

theorem Sys2Proof.Laws.PortForm.stop (data : List Byte) :
    Statement (.stop data) := .inl ⟨_ :: data, rfl⟩

theorem Sys2Proof.Laws.PortForm.pktBumpsWheelDrops (buf : List Byte) :
    Statement (.pktBumpsWheelDrops buf) := .inr (.inl ⟨_, buf, rfl⟩)

theorem Sys2Proof.Laws.PortForm.pktWall (buf : List Byte) :
    Statement (.pktWall buf) := .inr (.inl ⟨_, buf, rfl⟩)

theorem Sys2Proof.Laws.PortForm.pktCliffLeft (buf : List Byte) :
    Statement (.pktCliffLeft buf) := .inr (.inl ⟨_, buf, rfl⟩)

theorem Sys2Proof.Laws.PortForm.pktCliffFrontLeft (buf : List Byte) :
    Statement (.pktCliffFrontLeft buf) := .inr (.inl ⟨_, buf, rfl⟩)

theorem Sys2Proof.Laws.PortForm.pktCliffFrontRight (buf : List Byte) :
    Statement (.pktCliffFrontRight buf) := .inr (.inl ⟨_, buf, rfl⟩)

theorem Sys2Proof.Laws.PortForm.pktCliffRight (buf : List Byte) :
    Statement (.pktCliffRight buf) := .inr (.inl ⟨_, buf, rfl⟩)

theorem Sys2Proof.Laws.PortForm.pktVirtualWall (buf : List Byte) :
    Statement (.pktVirtualWall buf) := .inr (.inl ⟨_, buf, rfl⟩)

theorem Sys2Proof.Laws.PortForm.pktWheelOvercurrents (buf : List Byte) :
    Statement (.pktWheelOvercurrents buf) := .inr (.inl ⟨_, buf, rfl⟩)

theorem Sys2Proof.Laws.PortForm.pktDirtDetect (buf : List Byte) :
    Statement (.pktDirtDetect buf) := .inr (.inl ⟨_, buf, rfl⟩)

theorem Sys2Proof.Laws.PortForm.pktUnused16 (buf : List Byte) :
    Statement (.pktUnused16 buf) := .inr (.inl ⟨_, buf, rfl⟩)

theorem Sys2Proof.Laws.PortForm.pktIrOpcodeOmni (buf : List Byte) :
    Statement (.pktIrOpcodeOmni buf) := .inr (.inl ⟨_, buf, rfl⟩)

theorem Sys2Proof.Laws.PortForm.pktButtons (buf : List Byte) :
    Statement (.pktButtons buf) := .inr (.inl ⟨_, buf, rfl⟩)

theorem Sys2Proof.Laws.PortForm.pktDistance (buf : List Byte) :
    Statement (.pktDistance buf) := .inr (.inl ⟨_, buf, rfl⟩)

theorem Sys2Proof.Laws.PortForm.pktAngle (buf : List Byte) :
    Statement (.pktAngle buf) := .inr (.inl ⟨_, buf, rfl⟩)

theorem Sys2Proof.Laws.PortForm.pktChargingState (buf : List Byte) :
    Statement (.pktChargingState buf) := .inr (.inl ⟨_, buf, rfl⟩)

theorem Sys2Proof.Laws.PortForm.pktVoltage (buf : List Byte) :
    Statement (.pktVoltage buf) := .inr (.inl ⟨_, buf, rfl⟩)

theorem Sys2Proof.Laws.PortForm.pktCurrent (buf : List Byte) :
    Statement (.pktCurrent buf) := .inr (.inl ⟨_, buf, rfl⟩)

theorem Sys2Proof.Laws.PortForm.pktTemperature (buf : List Byte) :
    Statement (.pktTemperature buf) := .inr (.inl ⟨_, buf, rfl⟩)

theorem Sys2Proof.Laws.PortForm.pktBatteryCharge (buf : List Byte) :
    Statement (.pktBatteryCharge buf) := .inr (.inl ⟨_, buf, rfl⟩)

theorem Sys2Proof.Laws.PortForm.pktBatteryCapacity (buf : List Byte) :
    Statement (.pktBatteryCapacity buf) := .inr (.inl ⟨_, buf, rfl⟩)

theorem Sys2Proof.Laws.PortForm.pktWallSignal (buf : List Byte) :
    Statement (.pktWallSignal buf) := .inr (.inl ⟨_, buf, rfl⟩)

theorem Sys2Proof.Laws.PortForm.pktCliffLeftSignal (buf : List Byte) :
    Statement (.pktCliffLeftSignal buf) := .inr (.inl ⟨_, buf, rfl⟩)

theorem Sys2Proof.Laws.PortForm.pktCliffFrontLeftSignal (buf : List Byte) :
    Statement (.pktCliffFrontLeftSignal buf) := .inr (.inl ⟨_, buf, rfl⟩)

theorem Sys2Proof.Laws.PortForm.pktCliffFrontRightSignal (buf : List Byte) :
    Statement (.pktCliffFrontRightSignal buf) := .inr (.inl ⟨_, buf, rfl⟩)

theorem Sys2Proof.Laws.PortForm.pktCliffRightSignal (buf : List Byte) :
    Statement (.pktCliffRightSignal buf) := .inr (.inl ⟨_, buf, rfl⟩)

theorem Sys2Proof.Laws.PortForm.pktUnused32 (buf : List Byte) :
    Statement (.pktUnused32 buf) := .inr (.inl ⟨_, buf, rfl⟩)

theorem Sys2Proof.Laws.PortForm.pktUnused33 (buf : List Byte) :
    Statement (.pktUnused33 buf) := .inr (.inl ⟨_, buf, rfl⟩)

theorem Sys2Proof.Laws.PortForm.pktChargingSourcesAvailable (buf : List Byte) :
    Statement (.pktChargingSourcesAvailable buf) := .inr (.inl ⟨_, buf, rfl⟩)

theorem Sys2Proof.Laws.PortForm.pktOiMode (buf : List Byte) :
    Statement (.pktOiMode buf) := .inr (.inl ⟨_, buf, rfl⟩)

theorem Sys2Proof.Laws.PortForm.pktSongNumber (buf : List Byte) :
    Statement (.pktSongNumber buf) := .inr (.inl ⟨_, buf, rfl⟩)

theorem Sys2Proof.Laws.PortForm.pktSongPlaying (buf : List Byte) :
    Statement (.pktSongPlaying buf) := .inr (.inl ⟨_, buf, rfl⟩)

theorem Sys2Proof.Laws.PortForm.pktNumberOfStreamPackets (buf : List Byte) :
    Statement (.pktNumberOfStreamPackets buf) := .inr (.inl ⟨_, buf, rfl⟩)

theorem Sys2Proof.Laws.PortForm.pktRequestedVelocity (buf : List Byte) :
    Statement (.pktRequestedVelocity buf) := .inr (.inl ⟨_, buf, rfl⟩)

theorem Sys2Proof.Laws.PortForm.pktRequestedRadius (buf : List Byte) :
    Statement (.pktRequestedRadius buf) := .inr (.inl ⟨_, buf, rfl⟩)

theorem Sys2Proof.Laws.PortForm.pktRequestedRightVelocity (buf : List Byte) :
    Statement (.pktRequestedRightVelocity buf) := .inr (.inl ⟨_, buf, rfl⟩)

theorem Sys2Proof.Laws.PortForm.pktRequestedLeftVelocity (buf : List Byte) :
    Statement (.pktRequestedLeftVelocity buf) := .inr (.inl ⟨_, buf, rfl⟩)

theorem Sys2Proof.Laws.PortForm.pktLeftEncoderCounts (buf : List Byte) :
    Statement (.pktLeftEncoderCounts buf) := .inr (.inl ⟨_, buf, rfl⟩)

theorem Sys2Proof.Laws.PortForm.pktRightEncoderCounts (buf : List Byte) :
    Statement (.pktRightEncoderCounts buf) := .inr (.inl ⟨_, buf, rfl⟩)

theorem Sys2Proof.Laws.PortForm.pktLightBumper (buf : List Byte) :
    Statement (.pktLightBumper buf) := .inr (.inl ⟨_, buf, rfl⟩)

theorem Sys2Proof.Laws.PortForm.pktLightBumpLeftSignal (buf : List Byte) :
    Statement (.pktLightBumpLeftSignal buf) := .inr (.inl ⟨_, buf, rfl⟩)

theorem Sys2Proof.Laws.PortForm.pktLightBumpFrontLeftSignal (buf : List Byte) :
    Statement (.pktLightBumpFrontLeftSignal buf) := .inr (.inl ⟨_, buf, rfl⟩)

theorem Sys2Proof.Laws.PortForm.pktLightBumpCenterLeftSignal (buf : List Byte) :
    Statement (.pktLightBumpCenterLeftSignal buf) := .inr (.inl ⟨_, buf, rfl⟩)

theorem Sys2Proof.Laws.PortForm.pktLightBumpCenterRightSignal (buf : List Byte) :
    Statement (.pktLightBumpCenterRightSignal buf) := .inr (.inl ⟨_, buf, rfl⟩)

theorem Sys2Proof.Laws.PortForm.pktLightBumpFrontRightSignal (buf : List Byte) :
    Statement (.pktLightBumpFrontRightSignal buf) := .inr (.inl ⟨_, buf, rfl⟩)

theorem Sys2Proof.Laws.PortForm.pktLightBumpRightSignal (buf : List Byte) :
    Statement (.pktLightBumpRightSignal buf) := .inr (.inl ⟨_, buf, rfl⟩)

theorem Sys2Proof.Laws.PortForm.pktIrOpcodeLeft (buf : List Byte) :
    Statement (.pktIrOpcodeLeft buf) := .inr (.inl ⟨_, buf, rfl⟩)

theorem Sys2Proof.Laws.PortForm.pktIrOpcodeRight (buf : List Byte) :
    Statement (.pktIrOpcodeRight buf) := .inr (.inl ⟨_, buf, rfl⟩)

theorem Sys2Proof.Laws.PortForm.pktLeftMotorCurrent (buf : List Byte) :
    Statement (.pktLeftMotorCurrent buf) := .inr (.inl ⟨_, buf, rfl⟩)

theorem Sys2Proof.Laws.PortForm.pktRightMotorCurrent (buf : List Byte) :
    Statement (.pktRightMotorCurrent buf) := .inr (.inl ⟨_, buf, rfl⟩)

theorem Sys2Proof.Laws.PortForm.pktMainBrushMotorCurrent (buf : List Byte) :
    Statement (.pktMainBrushMotorCurrent buf) := .inr (.inl ⟨_, buf, rfl⟩)

theorem Sys2Proof.Laws.PortForm.pktSideBrushMotorCurrent (buf : List Byte) :
    Statement (.pktSideBrushMotorCurrent buf) := .inr (.inl ⟨_, buf, rfl⟩)

theorem Sys2Proof.Laws.PortForm.pktStasis (buf : List Byte) :
    Statement (.pktStasis buf) := .inr (.inl ⟨_, buf, rfl⟩)

theorem Sys2Proof.Laws.PortForm.pktGroup0 (buf : List Byte) :
    Statement (.pktGroup0 buf) := .inr (.inl ⟨_, buf, rfl⟩)

theorem Sys2Proof.Laws.PortForm.pktGroup1 (buf : List Byte) :
    Statement (.pktGroup1 buf) := .inr (.inl ⟨_, buf, rfl⟩)

theorem Sys2Proof.Laws.PortForm.pktGroup2 (buf : List Byte) :
    Statement (.pktGroup2 buf) := .inr (.inl ⟨_, buf, rfl⟩)

theorem Sys2Proof.Laws.PortForm.pktGroup3 (buf : List Byte) :
    Statement (.pktGroup3 buf) := .inr (.inl ⟨_, buf, rfl⟩)

theorem Sys2Proof.Laws.PortForm.pktGroup4 (buf : List Byte) :
    Statement (.pktGroup4 buf) := .inr (.inl ⟨_, buf, rfl⟩)

theorem Sys2Proof.Laws.PortForm.pktGroup5 (buf : List Byte) :
    Statement (.pktGroup5 buf) := .inr (.inl ⟨_, buf, rfl⟩)

theorem Sys2Proof.Laws.PortForm.pktGroup6 (buf : List Byte) :
    Statement (.pktGroup6 buf) := .inr (.inl ⟨_, buf, rfl⟩)

theorem Sys2Proof.Laws.PortForm.pktGroup100 (buf : List Byte) :
    Statement (.pktGroup100 buf) := .inr (.inl ⟨_, buf, rfl⟩)

theorem Sys2Proof.Laws.PortForm.pktGroup101 (buf : List Byte) :
    Statement (.pktGroup101 buf) := .inr (.inl ⟨_, buf, rfl⟩)

theorem Sys2Proof.Laws.PortForm.pktGroup106 (buf : List Byte) :
    Statement (.pktGroup106 buf) := .inr (.inl ⟨_, buf, rfl⟩)

theorem Sys2Proof.Laws.PortForm.pktGroup107 (buf : List Byte) :
    Statement (.pktGroup107 buf) := .inr (.inl ⟨_, buf, rfl⟩)
end

