-- ==== Sys2Proof/Laws/Stream.lean ====
section
/-! SUPPORT. What the Stream Frame Decoder does: the records of a payload, and runs of bytes. -/

namespace Sys2Proof.Machine

/-! ## Records -/

/-- The IDs that may head a record. -/
theorem recordMembers_eq_some {c : Config} {id : Byte} {members : List Byte} :
    recordMembers c id = some members
      ↔ ∃ spec, packetSpec c id = some spec ∧ streamable c spec = true ∧ members = membersOf id spec := by
  unfold recordMembers
  cases packetSpec c id with
  | none => simp
  | some spec =>
    by_cases h : streamable c spec = true
    · simp only [h, if_true, Option.some.injEq]
      exact ⟨fun e => ⟨spec, rfl, h, e.symm⟩, fun ⟨_, e, _, hm⟩ => by rw [hm, e]⟩
    · simp only [h, Bool.false_eq_true, if_false, Option.some.injEq]
      exact ⟨fun e => (nomatch e), fun ⟨_, e, hs, _⟩ => absurd (e ▸ hs) h⟩

/-- An ID with no entry heads no record. -/
theorem recordMembers_unknown {c : Config} {id : Byte} (h : packetSpec c id = none) : recordMembers c id = none := by
  simp only [recordMembers, h]

/-- A leaf heads a record of its own. -/
theorem recordMembers_leaf {c : Config} {id : Byte} {name : String} {w : Nat} {sg : Bool}
    (h : packetSpec c id = some (.leaf name w sg)) : recordMembers c id = some [id] := by
  simp [recordMembers, h, streamable, membersOf]

/-- Under LEAF_ONLY a group heads no record. -/
theorem recordMembers_group_leafOnly {c : Config} {id : Byte} {members : List Byte}
    (h : packetSpec c id = some (.group members)) (hp : c.streamGroupPolicy = .leafOnly) :
    recordMembers c id = none := by
  simp [recordMembers, h, streamable, hp]

/-- Under EXPAND_GROUPS a group heads a record of its members. -/
theorem recordMembers_group_expand {c : Config} {id : Byte} {members : List Byte}
    (h : packetSpec c id = some (.group members)) (hp : c.streamGroupPolicy = .expandGroups) :
    recordMembers c id = some members := by
  simp [recordMembers, h, streamable, hp, membersOf]

/-! ## Demultiplexing -/

/-- As many rounds as bytes are enough: more change nothing. -/
theorem demuxLoop_fuel (c : Config) {fuel fuel' : Nat} {p : List Byte} (h : p.length ≤ fuel) (h' : p.length ≤ fuel') :
    demuxLoop c fuel p = demuxLoop c fuel' p := by
  induction fuel generalizing fuel' p with
  | zero => rw [List.length_eq_zero_iff.1 (Nat.le_zero.1 h)]; cases fuel' <;> rfl
  | succ n ih =>
    cases p with
    | nil => cases fuel' <;> rfl
    | cons id rest =>
      cases fuel' with
      | zero => simp at h'
      | succ n' =>
        simp only [List.length_cons, Nat.add_le_add_iff_right] at h h'
        simp only [demuxLoop]
        cases recordMembers c id with
        | none => rfl
        | some members =>
          dsimp only
          split
          · rfl
          · rw [ih (fuel' := n')] <;> simp <;> omega

@[simp] theorem demux_nil (c : Config) : demux c [] = some [] := rfl

/-- One round: the record at the head, then the rest. -/
theorem demux_cons (c : Config) (id : Byte) (rest : List Byte) :
    demux c (id :: rest)
      = match recordMembers c id with
        | none => none
        | some members =>
          if rest.length < totalWidth c members then none
          else
            (demux c (rest.drop (totalWidth c members))).map
              (fieldPairs c members (rest.take (totalWidth c members)) ++ ·) := by
  rw [demux, List.length_cons]
  simp only [demuxLoop]
  cases recordMembers c id with
  | none => rfl
  | some members =>
    dsimp only
    split
    · rfl
    · rw [demux, demuxLoop_fuel c (fuel' := (rest.drop (totalWidth c members)).length)] <;> simp

/-- A record at the head, then the rest. -/
theorem demux_record {c : Config} {id : Byte} {members d : List Byte} (h : recordMembers c id = some members)
    (hd : d.length = totalWidth c members) (rest : List Byte) :
    demux c (id :: (d ++ rest)) = (demux c rest).map (fieldPairs c members d ++ ·) := by
  rw [demux_cons, h]
  simp [← hd]

/-- An ID that heads no record is a desync. -/
theorem demux_no_record {c : Config} {id : Byte} (h : recordMembers c id = none) (rest : List Byte) :
    demux c (id :: rest) = none := by
  rw [demux_cons, h]

/-- Data bytes that run past the end are a desync. -/
theorem demux_overrun {c : Config} {id : Byte} {spec : PacketSpec} (h : packetSpec c id = some spec) {rest : List Byte}
    (hr : rest.length < totalWidth c (membersOf id spec)) : demux c (id :: rest) = none := by
  rw [demux_cons, recordMembers, h]
  by_cases hs : streamable c spec = true <;> simp [hs, hr]

/-- After accepted bytes the demultiplexer goes on with the rest. -/
theorem demux_append {c : Config} {before : List Byte} {pairs : List Pair} (h : demux c before = some pairs)
    (rest : List Byte) : demux c (before ++ rest) = (demux c rest).map (pairs ++ ·) := by
  generalize hn : before.length = n
  induction n using Nat.strongRecOn generalizing before pairs with
  | ind n ih =>
    cases before with
    | nil => simp at h; subst h; simp
    | cons id b =>
      rw [demux_cons] at h
      cases hm : recordMembers c id with
      | none => simp [hm] at h
      | some members =>
        simp only [hm] at h
        split at h
        · simp at h
        · next hl =>
          obtain ⟨more, hmore, rfl⟩ := Option.map_eq_some_iff.1 h
          have hb : b = b.take (totalWidth c members) ++ b.drop (totalWidth c members) := (List.take_append_drop _ _).symm
          have hlen : (b.take (totalWidth c members)).length = totalWidth c members := by simp; omega
          have key := ih (b.drop (totalWidth c members)).length (by simp at hn ⊢; omega) hmore rfl
          conv_lhs => rw [hb, List.cons_append, List.append_assoc]
          rw [demux_record hm hlen, key]
          simp [Function.comp_def]

/-! ## Runs -/

@[simp] theorem withEvents_nil (s : State) : withEvents [] s = s := by simp [withEvents]

@[simp] theorem withEvents_withEvents (as bs : List StreamEvent) (s : State) :
    withEvents bs (withEvents as s) = withEvents (as ++ bs) s := by simp [withEvents]

/-- A run of two lists of transactions is one run after the other. -/
theorem runAll_append {is js : List Instr} {s t : State} (h : runAll is s = .next t) :
    runAll (is ++ js) s = runAll js t := by
  induction is generalizing s with
  | nil => cases h; rfl
  | cons i is ih =>
    simp only [runAll, List.cons_append] at h ⊢
    split at h
    · exact ih h
    · cases h
    · cases h

theorem feed_append (as bs : List Byte) : feed (as ++ bs) = feed as ++ feed bs := List.map_append

/-- One byte of a run. -/
theorem runAll_feed_cons (b : Byte) (bs : List Byte) (s : State) :
    runAll (feed (b :: bs)) s = runAll (feed bs) (byteStep b s) := rfl

@[simp] theorem runAll_feed_nil (s : State) : runAll (feed []) s = .next s := rfl

/-- Payload bytes fed while the buffer does not fill. -/
theorem runAll_feed_payload (p : List Byte) (s : State) (hs : s.sState = .accumPayload)
    (h : s.sPayload.length + p.length < s.sLen.toNat) :
    runAll (feed p) s
      = .next (withEvents (List.replicate p.length .none)
          { s with sPayload := s.sPayload ++ p, sSum := p.foldl addToSum s.sSum }) := by
  induction p generalizing s with
  | nil => simp
  | cons b p ih =>
    rw [List.length_cons] at h
    have hb : byteStep b s = giveOutput (.streamed .none) { s with sPayload := s.sPayload ++ [b], sSum := s.sSum + b } := by
      simp only [byteStep, hs, accumPayloadStep_eq]
      rw [if_neg (by omega)]
    rw [runAll_feed_cons, hb, ih _ (by simp [hs]) (by simp; omega)]
    simp [withEvents, giveOutput, addToSum, List.replicate_succ]

/-- Payload bytes fed until the buffer is full. -/
theorem runAll_feed_full (p : List Byte) (s : State) (hs : s.sState = .accumPayload) (hp : p ≠ [])
    (h : s.sPayload.length + p.length = s.sLen.toNat) :
    runAll (feed p) s
      = .next (withEvents (List.replicate p.length .none)
          { s with sState := .readChecksum, sPayload := s.sPayload ++ p, sSum := p.foldl addToSum s.sSum }) := by
  obtain rfl | ⟨q, b, rfl⟩ := List.eq_nil_or_concat p
  · exact absurd rfl hp
  · simp only [List.concat_eq_append, List.length_append, List.length_singleton] at h ⊢
    rw [feed_append, runAll_append (runAll_feed_payload q s hs (by omega)), runAll_feed_cons, runAll_feed_nil]
    simp only [byteStep, withEvents_sState, hs, accumPayloadStep_eq]
    rw [if_pos (by simp; omega)]
    simp [withEvents, giveOutput, addToSum, List.replicate_succ']

/-- A whole frame but its checksum, fed to a unit in SEEK_HEADER. -/
theorem runAll_feed_body (s : State) (p : List Byte) (hs : s.sState = .seekHeader) (hp : p.length ≤ 255) :
    runAll (feed (19#8 :: byte p.length :: p)) s
      = .next (withEvents (List.replicate (p.length + 2) .none)
          { s with sState := .readChecksum, sLen := byte p.length, sPayload := p,
                   sSum := frameSum (byte p.length) p }) := by
  have h1 : byteStep 19#8 s
      = giveOutput (.streamed .none) { s with sState := .readLength, sSum := 19#8, sPayload := [] } := by
    simp only [byteStep, hs]; rfl
  have h2 (b : Byte) :
      byteStep b (giveOutput (.streamed .none) { s with sState := .readLength, sSum := 19#8, sPayload := [] })
        = withEvents [.none, .none]
            { s with sState := if b = 0#8 then .readChecksum else .accumPayload, sLen := b, sSum := 19#8 + b,
                     sPayload := [] } := by
    simp [byteStep, readLengthStep_eq, giveOutput, withEvents]
  rw [runAll_feed_cons, runAll_feed_cons, h1, h2]
  by_cases hne : p = []
  · subst hne; simp [withEvents, byte, frameSum, byteSum, streamHeader]
  · have hpos : 0 < p.length := List.length_pos_iff.2 hne
    have hlen : (byte p.length).toNat = p.length := by simp; omega
    have hb : byte p.length ≠ 0#8 := fun h => by rw [h] at hlen; simp at hlen; omega
    rw [if_neg hb, runAll_feed_full p _ rfl hne (by simp [hlen]), withEvents]
    simp [withEvents, frameSum, foldl_addToSum, streamHeader, List.replicate_succ]

/-- The checksum step, when the sum is that of the frame. -/
theorem frameOutcome_of_sum {c : Config} {sum n : Byte} {p : List Byte} (checksum : Byte)
    (h : sum.toNat = (19 + n.toNat + natSum p) % 256) :
    frameOutcome c sum p checksum
      = if (19 + n.toNat + natSum p + checksum.toNat) % 256 = 0 then
          match demux c p with
          | none => .framingDesync
          | some pairs => .frame pairs
        else .checksumFailure := by
  have hp : checksumPasses sum checksum = true ↔ (19 + n.toNat + natSum p + checksum.toNat) % 256 = 0 := by
    rw [checksumPasses_iff, h]; omega
  by_cases hc : checksumPasses sum checksum = true
  · cases hd : demux c p <;> simp only [frameOutcome, if_pos hc, if_pos (hp.1 hc), hd]
  · simp only [frameOutcome, if_neg hc, if_neg fun h => hc (hp.2 h)]

end Sys2Proof.Machine
end

