-- ==== Sys2Proof/Laws/Validate.lean ====
section
/-! SUPPORT. What the Command Validator does. -/

namespace Sys2Proof.Machine

/-- A field's value is LeafValue of its bytes. -/
theorem fieldValue_eq (f : Field) (buf : List Byte) :
    fieldValue f buf = leafValue f.byteWidth f.signed (bytesAt buf f.byteOffset f.byteWidth) := rfl

/-- R166: the domain of a field, as a proposition. -/
theorem inDomain_iff (f : Field) (v : Int) :
    inDomain f v = true ↔ (f.min ≤ v ∧ v ≤ f.max) ∨ v ∈ f.sentinels := by
  simp [inDomain]

/-- The number of data bytes is the one the length rule asks for. -/
theorem lengthFits_iff (len : LengthRule) (op : Byte) (data : List Byte) :
    lengthFits len (op :: data) = true ↔ dataBytes len (op :: data) = some data.length := by
  unfold lengthFits
  cases dataBytes len (op :: data) with
  | none => simp
  | some k => simp; omega

/-- No field fails exactly when all are in their domains. -/
theorem firstFailing_eq_none {buf : List Byte} {start : Nat} {fs : List Field} :
    firstFailing buf start fs = none ↔ ∀ f ∈ fs, inDomain f (fieldValue f buf) = true := by
  induction fs generalizing start with
  | nil => simp [firstFailing]
  | cons f fs ih => by_cases h : inDomain f (fieldValue f buf) = true <;> simp [firstFailing, h, ih]

/-- Field `i` is reported exactly when it is outside its domain and all before it are inside theirs. -/
theorem firstFailing_eq_some {buf : List Byte} {start i : Nat} {fs : List Field} :
    firstFailing buf start fs = some (start + i)
      ↔ (∃ f, fs[i]? = some f ∧ inDomain f (fieldValue f buf) = false)
        ∧ ∀ j g, j < i → fs[j]? = some g → inDomain g (fieldValue g buf) = true := by
  induction fs generalizing start i with
  | nil => simp [firstFailing]
  | cons f fs ih =>
    by_cases h : inDomain f (fieldValue f buf) = true
    · cases i with
      | zero =>
        simp only [firstFailing, h, if_true, List.getElem?_cons_zero, Option.some.injEq, exists_eq_left', Bool.true_eq_false,
          false_and, iff_false]
        intro hc
        have hlt : ∀ (l : List Field) (s i : Nat), firstFailing buf s l = some i → s ≤ i := by
          intro l
          induction l with
          | nil => intro s i hh; cases hh
          | cons x xs ihx =>
            intro s i hh
            unfold firstFailing at hh
            split at hh
            · have := ihx _ _ hh; omega
            · cases hh; exact Nat.le_refl _
        have := hlt _ _ _ hc
        omega
      | succ i =>
        rw [firstFailing, if_pos h, show start + (i + 1) = start + 1 + i by omega, ih]
        simp only [List.getElem?_cons_succ]
        refine and_congr_right fun _ => ⟨fun hj j g hlt hg => ?_, fun hj j g hlt hg => ?_⟩
        · cases j with
          | zero => simp at hg; exact hg ▸ h
          | succ j => exact hj j g (by omega) (by simpa using hg)
        · exact hj (j + 1) g (by omega) (by simpa using hg)
    · rw [firstFailing, if_neg h]
      cases i with
      | zero => simp [h]
      | succ i =>
        simp only [Option.some.injEq]
        exact ⟨fun e => absurd e (by omega), fun e => absurd (e.2 0 f (by omega) rfl) h⟩

/-- A field that is reported is one of the list. -/
theorem firstFailing_index {buf : List Byte} {start k : Nat} {fs : List Field}
    (h : firstFailing buf start fs = some k) : ∃ i, k = start + i := by
  induction fs generalizing start with
  | nil => cases h
  | cons f fs ih =>
    unfold firstFailing at h
    split at h
    · obtain ⟨i, rfl⟩ := ih h; exact ⟨i + 1, by omega⟩
    · cases h; exact ⟨0, rfl⟩

/-- A known opcode with the wrong number of data bytes. -/
theorem validateBuffer_wrongLength {c : Config} {op : Byte} {data : List Byte} {spec : CommandSpec}
    (h : commandSpec c op = some spec) (hl : dataBytes spec.length (op :: data) ≠ some data.length) :
    validateBuffer c (op :: data) = ⟨false, .structuralLengthMismatch, none⟩ := by
  have hl' : ¬ lengthFits spec.length (op :: data) = true := fun hf => hl ((lengthFits_iff _ _ _).1 hf)
  simp only [validateBuffer, h, validateWith, if_neg hl', raiseValidate]

/-- A known opcode with the right number of data bytes: the fields decide. -/
theorem validateBuffer_fields {c : Config} {op : Byte} {data : List Byte} {spec : CommandSpec}
    (h : commandSpec c op = some spec) (hl : dataBytes spec.length (op :: data) = some data.length) :
    validateBuffer c (op :: data)
      = match firstFailing (op :: data) 0 spec.fields with
        | some i => ⟨false, .fieldOutOfRange, some i⟩
        | none => ⟨true, .ok, none⟩ := by
  rw [← lengthFits_iff] at hl
  cases hf : firstFailing (op :: data) 0 spec.fields <;>
    simp only [validateBuffer, h, validateWith, if_pos hl, raiseValidate, validateOk, hf]

/-- All that VALIDATE can answer, and when. -/
theorem validateBuffer_cases (c : Config) (buf : List Byte) :
    (buf = [] ∧ validateBuffer c buf = ⟨false, .unknownOpcode, none⟩)
    ∨ ∃ op data, buf = op :: data ∧
      ((commandSpec c op = none ∧ validateBuffer c buf = ⟨false, .unknownOpcode, none⟩)
      ∨ ∃ spec, commandSpec c op = some spec ∧
        ((dataBytes spec.length buf ≠ some data.length
            ∧ validateBuffer c buf = ⟨false, .structuralLengthMismatch, none⟩)
        ∨ (dataBytes spec.length buf = some data.length ∧ (∀ f ∈ spec.fields, inDomain f (fieldValue f buf) = true)
            ∧ validateBuffer c buf = ⟨true, .ok, none⟩)
        ∨ (dataBytes spec.length buf = some data.length ∧ ∃ i f, spec.fields[i]? = some f
            ∧ inDomain f (fieldValue f buf) = false
            ∧ (∀ j g, j < i → spec.fields[j]? = some g → inDomain g (fieldValue g buf) = true)
            ∧ validateBuffer c buf = ⟨false, .fieldOutOfRange, some i⟩))) := by
  cases buf with
  | nil => exact .inl ⟨rfl, rfl⟩
  | cons op data =>
    refine .inr ⟨op, data, rfl, ?_⟩
    cases hs : commandSpec c op with
    | none => exact .inl ⟨rfl, by simp only [validateBuffer, hs, raiseValidate]⟩
    | some spec =>
      refine .inr ⟨spec, rfl, ?_⟩
      by_cases hl : dataBytes spec.length (op :: data) = some data.length
      · have hv := validateBuffer_fields hs hl
        cases hf : firstFailing (op :: data) 0 spec.fields with
        | none => exact .inr (.inl ⟨hl, firstFailing_eq_none.1 hf, by rw [hv, hf]⟩)
        | some k =>
          obtain ⟨i, rfl⟩ := firstFailing_index hf
          obtain ⟨⟨f, hi, hd⟩, hj⟩ := firstFailing_eq_some.1 hf
          exact .inr (.inr ⟨hl, i, f, hi, hd, hj, by rw [hv, hf, Nat.zero_add]⟩)
      · exact .inl ⟨hl, validateBuffer_wrongLength hs hl⟩

end Sys2Proof.Machine
end

