-- ==== Sys2Proof/Tests/Slice0.lean ====
section
/-! SUPPORT. The model's own tests. Expected results are those of the spec: the encodings of opcode_table.json and of
95_test_vectors.md section 3, and the vectors of 95_test_vectors.md sections 1 and 2. The last part shows that the hypotheses of
the statements can be met. -/

namespace Sys2Proof.Tests

open Sys2Proof.Machine

/-! ## Well-formedness: a term that each check refuses, and one it takes -/

theorem test_validate_of_a_row_is_refused : (Instr.validate [137#8, 0#8, 0#8, 0#8, 0#8]).wellFormed = false := by decide

theorem test_validate_of_no_row_is_taken :
    (Instr.validate []).wellFormed = true ∧ (Instr.validate [159#8, 1#8]).wellFormed = true := by decide

theorem test_decode_of_a_row_is_refused : (Instr.decode 7#8 [0#8]).wellFormed = false := by decide

theorem test_decode_of_no_row_is_taken : (Instr.decode 59#8 []).wellFormed = true := by decide

/-! ## Decoding: a word for every row. The code byte is written in the table's bits. -/

/-- Format OP, the words of P1, P2, P5 and P6. -/
theorem test_decode_transactions :
    [[0b00#8, 159#8, 1#8, 2#8], [0b01#8, 60#8, 0#8], [0b10#8, 0#8, 19#8], [0b10#8, 1#8], [0b10#8, 2#8], [0b11#8]].map decode
      = [.ok (.validate [159#8, 1#8, 2#8]), .ok (.decode 60#8 [0#8]), .ok (.streamStep (.byte 19#8)),
         .ok (.streamStep .ioError), .ok (.streamStep .endOfStream), .ok .streamReset] := rfl

/-- Formats CMD_FIXED and CMD_PREFIXED. -/
theorem test_decode_commands :
    [[0#8, 0b00000111#8], [0#8, 0b10000000#8], [0#8, 0b10000001#8, 1#8], [0#8, 0b10000010#8], [0#8, 0b10000011#8],
     [0#8, 0b10000100#8], [0#8, 0b10000101#8], [0#8, 0b10000110#8], [0#8, 0b10000111#8], [0#8, 0b10001000#8],
     [0#8, 0b10001001#8, 1#8, 2#8, 3#8, 4#8], [0#8, 0b10001010#8, 1#8], [0#8, 0b10001011#8, 1#8, 2#8, 3#8],
     [0#8, 0b10001100#8, 1#8, 2#8], [0#8, 0b10001101#8, 1#8], [0#8, 0b10001110#8, 1#8], [0#8, 0b10001111#8],
     [0#8, 0b10010000#8, 1#8, 2#8, 3#8], [0#8, 0b10010001#8, 1#8, 2#8, 3#8, 4#8],
     [0#8, 0b10010010#8, 1#8, 2#8, 3#8, 4#8], [0#8, 0b10010011#8, 1#8], [0#8, 0b10010100#8, 1#8],
     [0#8, 0b10010101#8, 1#8], [0#8, 0b10010110#8, 1#8], [0#8, 0b10010111#8, 1#8], [0#8, 0b10011000#8, 1#8],
     [0#8, 0b10011001#8], [0#8, 0b10011010#8], [0#8, 0b10011011#8, 1#8], [0#8, 0b10011100#8, 1#8, 2#8],
     [0#8, 0b10011101#8, 1#8, 2#8], [0#8, 0b10011110#8, 1#8], [0#8, 0b10100010#8, 1#8, 2#8],
     [0#8, 0b10100011#8, 1#8, 2#8, 3#8, 4#8], [0#8, 0b10100100#8, 1#8, 2#8, 3#8, 4#8], [0#8, 0b10100101#8, 1#8],
     [0#8, 0b10100111#8, 1#8, 2#8, 3#8, 4#8, 5#8, 6#8, 7#8, 8#8, 9#8, 10#8, 11#8, 12#8, 13#8, 14#8, 15#8],
     [0#8, 0b10101000#8, 1#8, 2#8, 3#8], [0#8, 0b10101101#8]].map decode
      =
    [.ok (.reset []), .ok (.start []), .ok (.baud [1#8]), .ok (.control []), .ok (.safe []), .ok (.full []),
     .ok (.power []), .ok (.spot []), .ok (.clean []), .ok (.max []), .ok (.drive [1#8, 2#8, 3#8, 4#8]),
     .ok (.motors [1#8]), .ok (.leds [1#8, 2#8, 3#8]), .ok (.song [1#8, 2#8]), .ok (.play [1#8]),
     .ok (.sensors [1#8]), .ok (.seekDock []), .ok (.pwmMotors [1#8, 2#8, 3#8]),
     .ok (.driveDirect [1#8, 2#8, 3#8, 4#8]), .ok (.drivePwm [1#8, 2#8, 3#8, 4#8]), .ok (.digitalOutputs [1#8]),
     .ok (.stream [1#8]), .ok (.queryList [1#8]), .ok (.pauseResumeStream [1#8]), .ok (.sendIr [1#8]),
     .ok (.script [1#8]), .ok (.playScript []), .ok (.showScript []), .ok (.waitTime [1#8]),
     .ok (.waitDistance [1#8, 2#8]), .ok (.waitAngle [1#8, 2#8]), .ok (.waitEvent [1#8]),
     .ok (.schedulingLeds [1#8, 2#8]), .ok (.digitLedsRaw [1#8, 2#8, 3#8, 4#8]),
     .ok (.digitLedsAscii [1#8, 2#8, 3#8, 4#8]), .ok (.buttons [1#8]),
     .ok (.schedule [1#8, 2#8, 3#8, 4#8, 5#8, 6#8, 7#8, 8#8, 9#8, 10#8, 11#8, 12#8, 13#8, 14#8, 15#8]),
     .ok (.setDayTime [1#8, 2#8, 3#8]), .ok (.stop [])] := rfl

/-- Formats PKT_LEAF and PKT_GROUP. -/
theorem test_decode_packets :
    [[1#8, 0b00000111#8, 8#8], [1#8, 0b00001000#8, 9#8], [1#8, 0b00001001#8, 10#8], [1#8, 0b00001010#8, 11#8],
     [1#8, 0b00001011#8, 12#8], [1#8, 0b00001100#8, 13#8], [1#8, 0b00001101#8, 14#8], [1#8, 0b00001110#8, 15#8],
     [1#8, 0b00001111#8, 16#8], [1#8, 0b00010000#8, 17#8], [1#8, 0b00010001#8, 18#8], [1#8, 0b00010010#8, 19#8],
     [1#8, 0b00010011#8, 20#8], [1#8, 0b00010100#8, 21#8], [1#8, 0b00010101#8, 22#8], [1#8, 0b00010110#8, 23#8],
     [1#8, 0b00010111#8, 24#8], [1#8, 0b00011000#8, 25#8], [1#8, 0b00011001#8, 26#8], [1#8, 0b00011010#8, 27#8],
     [1#8, 0b00011011#8, 28#8], [1#8, 0b00011100#8, 29#8], [1#8, 0b00011101#8, 30#8], [1#8, 0b00011110#8, 31#8],
     [1#8, 0b00011111#8, 32#8], [1#8, 0b00100000#8, 33#8], [1#8, 0b00100001#8, 34#8], [1#8, 0b00100010#8, 35#8],
     [1#8, 0b00100011#8, 36#8], [1#8, 0b00100100#8, 37#8], [1#8, 0b00100101#8, 38#8], [1#8, 0b00100110#8, 39#8],
     [1#8, 0b00100111#8, 40#8], [1#8, 0b00101000#8, 41#8], [1#8, 0b00101001#8, 42#8], [1#8, 0b00101010#8, 43#8],
     [1#8, 0b00101011#8, 44#8], [1#8, 0b00101100#8, 45#8], [1#8, 0b00101101#8, 46#8], [1#8, 0b00101110#8, 47#8],
     [1#8, 0b00101111#8, 48#8], [1#8, 0b00110000#8, 49#8], [1#8, 0b00110001#8, 50#8], [1#8, 0b00110010#8, 51#8],
     [1#8, 0b00110011#8, 52#8], [1#8, 0b00110100#8, 53#8], [1#8, 0b00110101#8, 54#8], [1#8, 0b00110110#8, 55#8],
     [1#8, 0b00110111#8, 56#8], [1#8, 0b00111000#8, 57#8], [1#8, 0b00111001#8, 58#8], [1#8, 0b00111010#8, 59#8],
     [1#8, 0b00000000#8, 1#8], [1#8, 0b00000001#8, 2#8], [1#8, 0b00000010#8, 3#8], [1#8, 0b00000011#8, 4#8],
     [1#8, 0b00000100#8, 5#8], [1#8, 0b00000101#8, 6#8], [1#8, 0b00000110#8, 7#8], [1#8, 0b01100100#8, 101#8],
     [1#8, 0b01100101#8, 102#8], [1#8, 0b01101010#8, 107#8], [1#8, 0b01101011#8, 108#8]].map decode
      =
    [.ok (.pktBumpsWheelDrops [8#8]), .ok (.pktWall [9#8]), .ok (.pktCliffLeft [10#8]),
     .ok (.pktCliffFrontLeft [11#8]), .ok (.pktCliffFrontRight [12#8]), .ok (.pktCliffRight [13#8]),
     .ok (.pktVirtualWall [14#8]), .ok (.pktWheelOvercurrents [15#8]), .ok (.pktDirtDetect [16#8]),
     .ok (.pktUnused16 [17#8]), .ok (.pktIrOpcodeOmni [18#8]), .ok (.pktButtons [19#8]), .ok (.pktDistance [20#8]),
     .ok (.pktAngle [21#8]), .ok (.pktChargingState [22#8]), .ok (.pktVoltage [23#8]), .ok (.pktCurrent [24#8]),
     .ok (.pktTemperature [25#8]), .ok (.pktBatteryCharge [26#8]), .ok (.pktBatteryCapacity [27#8]),
     .ok (.pktWallSignal [28#8]), .ok (.pktCliffLeftSignal [29#8]), .ok (.pktCliffFrontLeftSignal [30#8]),
     .ok (.pktCliffFrontRightSignal [31#8]), .ok (.pktCliffRightSignal [32#8]), .ok (.pktUnused32 [33#8]),
     .ok (.pktUnused33 [34#8]), .ok (.pktChargingSourcesAvailable [35#8]), .ok (.pktOiMode [36#8]),
     .ok (.pktSongNumber [37#8]), .ok (.pktSongPlaying [38#8]), .ok (.pktNumberOfStreamPackets [39#8]),
     .ok (.pktRequestedVelocity [40#8]), .ok (.pktRequestedRadius [41#8]), .ok (.pktRequestedRightVelocity [42#8]),
     .ok (.pktRequestedLeftVelocity [43#8]), .ok (.pktLeftEncoderCounts [44#8]), .ok (.pktRightEncoderCounts [45#8]),
     .ok (.pktLightBumper [46#8]), .ok (.pktLightBumpLeftSignal [47#8]), .ok (.pktLightBumpFrontLeftSignal [48#8]),
     .ok (.pktLightBumpCenterLeftSignal [49#8]), .ok (.pktLightBumpCenterRightSignal [50#8]),
     .ok (.pktLightBumpFrontRightSignal [51#8]), .ok (.pktLightBumpRightSignal [52#8]),
     .ok (.pktIrOpcodeLeft [53#8]), .ok (.pktIrOpcodeRight [54#8]), .ok (.pktLeftMotorCurrent [55#8]),
     .ok (.pktRightMotorCurrent [56#8]), .ok (.pktMainBrushMotorCurrent [57#8]),
     .ok (.pktSideBrushMotorCurrent [58#8]), .ok (.pktStasis [59#8]), .ok (.pktGroup0 [1#8]), .ok (.pktGroup1 [2#8]),
     .ok (.pktGroup2 [3#8]), .ok (.pktGroup3 [4#8]), .ok (.pktGroup4 [5#8]), .ok (.pktGroup5 [6#8]),
     .ok (.pktGroup6 [7#8]), .ok (.pktGroup100 [101#8]), .ok (.pktGroup101 [102#8]), .ok (.pktGroup106 [107#8]),
     .ok (.pktGroup107 [108#8])] := rfl

/-- Bytes that spell no transaction. -/
theorem test_decode_errors :
    [[], [4#8], [1#8], [2#8], [2#8, 3#8], [2#8, 0#8], [2#8, 1#8, 0#8], [3#8, 0#8]].map decode
      = [.error .emptyWord, .error (.noSuchSelector 4#8), .error .packetIdMissing, .error .notAnEvent,
         .error .notAnEvent, .error .notAnEvent, .error .notAnEvent, .error .operandsAfterReset] := rfl

/-- Words of the table: DRIVE -200 500 in five bytes, low bits first; STREAM_RESET; an unknown code. -/
theorem test_decode_table_words :
    decodeTableWord 40 0xF40138FF89 = some (.drive [255#8, 56#8, 1#8, 244#8]) ∧ decodeTableWord 8 3 = some .streamReset
      ∧ decodeTableWord 8 0x80 = some (.start []) ∧ decodeTableWord 16 0xE718 = some (.pktTemperature [231#8])
      ∧ decodeTableWord 8 255 = none := by
  decide +kernel

/-- A table word placed at the port is the next transaction. -/
theorem test_fetched_word_runs :
    step (State.reset.withFetchWord 8 0x80) = .next (giveOutput (.validated ⟨true, .ok, none⟩) State.reset) := rfl

/-! ## Catalogs that are refused, and one that is not -/

/-- R140: a second entry for a known opcode; min above max; two fields on one byte. -/
theorem test_broken_commands_are_refused :
    [⟨137#8, "DRIVE", .fixed 4, [], []⟩ :: defaultCmdCatalog,
     defaultCmdCatalog.map fun e => if e.opcode == 137#8 then { e with sourceFields := [s16 1 500 (-500)] } else e,
     defaultCmdCatalog.map fun e => if e.opcode == 137#8 then { e with sourceFields := [s16 1 0 1, u8 2 0 1] } else e].map
        (fun cmds => admitted { defaultConfig with cmdCatalog := cmds })
      = [false, false, false] := by
  decide +kernel

/-- R8, R140(d): a 40th entry, for an opcode that is not known, that is known, and that is known with min above max. -/
theorem test_entries_of_other_opcodes :
    [(defaultKnownOpcodes, 1), (174#8 :: defaultKnownOpcodes, 1), (174#8 :: defaultKnownOpcodes, -1)].map
        (fun t => admitted { defaultConfig with
          knownOpcodes := t.1, cmdCatalog := ⟨174#8, "NEW", .fixed 1, [u8 1 0 t.2], []⟩ :: defaultCmdCatalog })
      = [false, true, false] := by
  decide +kernel

/-- The default packets with other widths, unsigned. -/
def withWidths (widths : List (Byte × Nat)) : Config :=
  { defaultConfig with
    pktCatalog := widths.map (fun w => ⟨w.1, .leaf "LEAF" w.2 false⟩)
      ++ defaultPktCatalog.filter fun e => !(widths.map (·.1)).contains e.id }

/-- R200: a leaf of width 3, group 2 of total 7. R265: packet 29 of width 1, group 4 still of total 14. R23: two entries
for one ID. The widths of 19 and 17 may change places. -/
theorem test_broken_packets_are_refused :
    [withWidths [(7#8, 3)], withWidths [(17#8, 2)], withWidths [(29#8, 1), (32#8, 2)], withWidths [(7#8, 1), (7#8, 1)],
     withWidths [(19#8, 1), (17#8, 2)]].map admitted = [false, false, false, false, true] := by
  decide +kernel

/-! ## One transaction on a block fresh from reset -/

/-- The results a transaction gives on a block fresh from reset. -/
def answers (c : Config) (i : Instr) : List Output :=
  match exec i (State.fresh c) with
  | .next t => t.outputs
  | _ => []

/-- The results of some VALIDATE transactions. -/
def verdicts (is : List Instr) (r : ValidateResult) : Bool := is.all fun i => answers defaultConfig i == [.validated r]

/-- The EXTENDED profile. -/
def extended : Config := { defaultConfig with domainProfile := .extended }

/-- 95 section 2.1, column "accepted". -/
theorem test_smallest_commands_are_accepted :
    verdicts
      [.reset [], .start [], .baud [0#8], .control [], .safe [], .full [], .power [], .spot [], .clean [], .max [],
       .drive [0#8, 0#8, 0#8, 0#8], .motors [0#8], .leds [0#8, 0#8, 0#8], .song [0#8, 0#8], .play [0#8],
       .sensors [0#8], .seekDock [], .pwmMotors [0#8, 0#8, 0#8], .driveDirect [0#8, 0#8, 0#8, 0#8],
       .drivePwm [0#8, 0#8, 0#8, 0#8], .digitalOutputs [0#8], .stream [0#8], .queryList [0#8],
       .pauseResumeStream [0#8], .sendIr [0#8], .script [0#8], .playScript [], .showScript [], .waitTime [0#8],
       .waitDistance [0#8, 0#8], .waitAngle [0#8, 0#8], .waitEvent [0#8], .schedulingLeds [0#8, 0#8],
       .digitLedsRaw [0#8, 0#8, 0#8, 0#8], .digitLedsAscii [0#8, 0#8, 0#8, 0#8], .buttons [0#8],
       .schedule [0#8, 0#8, 0#8, 0#8, 0#8, 0#8, 0#8, 0#8, 0#8, 0#8, 0#8, 0#8, 0#8, 0#8, 0#8],
       .setDayTime [0#8, 0#8, 0#8], .stop []] ⟨true, .ok, none⟩ = true := by
  decide +kernel

/-- 95 section 2.1, column "longer". -/
theorem test_longer_commands_are_rejected :
    verdicts
      [.reset [0#8], .start [0#8], .baud [0#8, 0#8], .control [0#8], .safe [0#8], .full [0#8], .power [0#8],
       .spot [0#8], .clean [0#8], .max [0#8], .drive [0#8, 0#8, 0#8, 0#8, 0#8], .motors [0#8, 0#8],
       .leds [0#8, 0#8, 0#8, 0#8], .song [0#8, 0#8, 0#8], .play [0#8, 0#8], .sensors [0#8, 0#8], .seekDock [0#8],
       .pwmMotors [0#8, 0#8, 0#8, 0#8], .driveDirect [0#8, 0#8, 0#8, 0#8, 0#8], .drivePwm [0#8, 0#8, 0#8, 0#8, 0#8],
       .digitalOutputs [0#8, 0#8], .stream [0#8, 0#8], .queryList [0#8, 0#8], .pauseResumeStream [0#8, 0#8],
       .sendIr [0#8, 0#8], .script [0#8, 0#8], .playScript [0#8], .showScript [0#8], .waitTime [0#8, 0#8],
       .waitDistance [0#8, 0#8, 0#8], .waitAngle [0#8, 0#8, 0#8], .waitEvent [0#8, 0#8],
       .schedulingLeds [0#8, 0#8, 0#8], .digitLedsRaw [0#8, 0#8, 0#8, 0#8, 0#8],
       .digitLedsAscii [0#8, 0#8, 0#8, 0#8, 0#8], .buttons [0#8, 0#8],
       .schedule [0#8, 0#8, 0#8, 0#8, 0#8, 0#8, 0#8, 0#8, 0#8, 0#8, 0#8, 0#8, 0#8, 0#8, 0#8, 0#8],
       .setDayTime [0#8, 0#8, 0#8, 0#8], .stop [0#8]]
      ⟨false, .structuralLengthMismatch, none⟩ = true := by
  decide +kernel

/-- V3, the corners of DRIVE: accepted. -/
theorem test_drive_accepted :
    verdicts [.drive [1#8, 244#8, 128#8, 0#8], .drive [254#8, 12#8, 127#8, 255#8], .drive [0#8, 0#8, 248#8, 48#8]]
      ⟨true, .ok, none⟩ = true := by
  decide +kernel

/-- V3, the corners of DRIVE: the first field outside its domain. -/
theorem test_drive_rejected :
    verdicts [.drive [1#8, 245#8, 7#8, 209#8], .drive [254#8, 11#8, 0#8, 0#8]] ⟨false, .fieldOutOfRange, some 0⟩ = true
      ∧ verdicts [.drive [0#8, 0#8, 128#8, 1#8], .drive [0#8, 0#8, 127#8, 254#8]] ⟨false, .fieldOutOfRange, some 1⟩
        = true := by
  decide +kernel

/-- V1, V2: no opcode, an unknown opcode, and prefixes. -/
theorem test_unknown_opcodes_and_prefixes :
    verdicts [.validate [], .validate [159#8, 1#8, 2#8]] ⟨false, .unknownOpcode, none⟩ = true
      ∧ verdicts [.song [0#8, 1#8, 60#8, 32#8], .script [3#8, 137#8, 0#8, 0#8], .stream [1#8, 255#8]] ⟨true, .ok, none⟩ = true
      ∧ verdicts [.song [0#8], .song [], .stream [2#8, 7#8], .queryList []] ⟨false, .structuralLengthMismatch, none⟩
        = true := by
  decide +kernel

/-- V4, column "max + 1", the last field of each command. -/
theorem test_extended_domains :
    answers extended (.baud [12#8]) = [.validated ⟨false, .fieldOutOfRange, some 0⟩]
      ∧ answers extended (.pwmMotors [129#8, 129#8, 128#8]) = [.validated ⟨false, .fieldOutOfRange, some 2⟩]
      ∧ answers extended (.driveDirect [254#8, 12#8, 1#8, 245#8]) = [.validated ⟨false, .fieldOutOfRange, some 1⟩]
      ∧ answers extended (.drivePwm [255#8, 1#8, 1#8, 0#8]) = [.validated ⟨false, .fieldOutOfRange, some 1⟩]
      ∧ answers extended (.pauseResumeStream [2#8]) = [.validated ⟨false, .fieldOutOfRange, some 0⟩]
      ∧ answers extended (.digitLedsRaw [0#8, 0#8, 0#8, 128#8]) = [.validated ⟨false, .fieldOutOfRange, some 3⟩]
      ∧ answers extended (.digitLedsAscii [32#8, 32#8, 32#8, 127#8]) = [.validated ⟨false, .fieldOutOfRange, some 3⟩]
      ∧ answers extended (.schedule [0#8, 0#8, 0#8, 0#8, 0#8, 0#8, 0#8, 0#8, 0#8, 0#8, 0#8, 0#8, 0#8, 0#8, 60#8]) =
          [.validated ⟨false, .fieldOutOfRange, some 14⟩]
      ∧ answers extended (.setDayTime [0#8, 0#8, 60#8]) = [.validated ⟨false, .fieldOutOfRange, some 2⟩] := by
  decide +kernel

/-- V5, column "0x80..": the sign boundary of every leaf. -/
theorem test_leaf_packets :
    ([
       (.pktBumpsWheelDrops [128#8], 7#8, 128), (.pktWall [128#8], 8#8, 128), (.pktCliffLeft [128#8], 9#8, 128),
       (.pktCliffFrontLeft [128#8], 10#8, 128), (.pktCliffFrontRight [128#8], 11#8, 128),
       (.pktCliffRight [128#8], 12#8, 128), (.pktVirtualWall [128#8], 13#8, 128),
       (.pktWheelOvercurrents [128#8], 14#8, 128), (.pktDirtDetect [128#8], 15#8, 128),
       (.pktUnused16 [128#8], 16#8, 128), (.pktIrOpcodeOmni [128#8], 17#8, 128), (.pktButtons [128#8], 18#8, 128),
       (.pktDistance [128#8, 0#8], 19#8, -32768), (.pktAngle [128#8, 0#8], 20#8, -32768),
       (.pktChargingState [128#8], 21#8, 128), (.pktVoltage [128#8, 0#8], 22#8, 32768),
       (.pktCurrent [128#8, 0#8], 23#8, -32768), (.pktTemperature [128#8], 24#8, -128),
       (.pktBatteryCharge [128#8, 0#8], 25#8, 32768), (.pktBatteryCapacity [128#8, 0#8], 26#8, 32768),
       (.pktWallSignal [128#8, 0#8], 27#8, 32768), (.pktCliffLeftSignal [128#8, 0#8], 28#8, 32768),
       (.pktCliffFrontLeftSignal [128#8, 0#8], 29#8, 32768), (.pktCliffFrontRightSignal [128#8, 0#8], 30#8, 32768),
       (.pktCliffRightSignal [128#8, 0#8], 31#8, 32768), (.pktUnused32 [128#8], 32#8, 128),
       (.pktUnused33 [128#8, 0#8], 33#8, 32768), (.pktChargingSourcesAvailable [128#8], 34#8, 128),
       (.pktOiMode [128#8], 35#8, 128), (.pktSongNumber [128#8], 36#8, 128), (.pktSongPlaying [128#8], 37#8, 128),
       (.pktNumberOfStreamPackets [128#8], 38#8, 128), (.pktRequestedVelocity [128#8, 0#8], 39#8, -32768),
       (.pktRequestedRadius [128#8, 0#8], 40#8, -32768), (.pktRequestedRightVelocity [128#8, 0#8], 41#8, -32768),
       (.pktRequestedLeftVelocity [128#8, 0#8], 42#8, -32768), (.pktLeftEncoderCounts [128#8, 0#8], 43#8, -32768),
       (.pktRightEncoderCounts [128#8, 0#8], 44#8, -32768), (.pktLightBumper [128#8], 45#8, 128),
       (.pktLightBumpLeftSignal [128#8, 0#8], 46#8, 32768), (.pktLightBumpFrontLeftSignal [128#8, 0#8], 47#8, 32768),
       (.pktLightBumpCenterLeftSignal [128#8, 0#8], 48#8, 32768),
       (.pktLightBumpCenterRightSignal [128#8, 0#8], 49#8, 32768),
       (.pktLightBumpFrontRightSignal [128#8, 0#8], 50#8, 32768),
       (.pktLightBumpRightSignal [128#8, 0#8], 51#8, 32768), (.pktIrOpcodeLeft [128#8], 52#8, 128),
       (.pktIrOpcodeRight [128#8], 53#8, 128), (.pktLeftMotorCurrent [128#8, 0#8], 54#8, -32768),
       (.pktRightMotorCurrent [128#8, 0#8], 55#8, -32768), (.pktMainBrushMotorCurrent [128#8, 0#8], 56#8, -32768),
       (.pktSideBrushMotorCurrent [128#8, 0#8], 57#8, -32768), (.pktStasis [128#8], 58#8, 128)] : List (Instr × Byte × Int)).all (fun t =>
      answers defaultConfig t.1 == [.decoded (.record [(t.2.1, t.2.2)])]) = true := by
  decide +kernel

/-- The bytes `1, 2, .., n`. -/
def ramp (n : Nat) : List Byte := (List.range n).map fun k => byte (k + 1)

/-- The value a group gives for one of its members. -/
def memberValue (i : Instr) (m : Byte) : Option Int :=
  match answers defaultConfig i with
  | [.decoded (.record ps)] => (ps.find? fun p => p.1 == m).map (·.2)
  | _ => none

/-- V6: the last member of each group on the bytes `1, 2, ..`. -/
theorem test_group_packets :
    memberValue (.pktGroup0 (ramp 26)) 26#8 = some 6426
      ∧ memberValue (.pktGroup1 (ramp 10)) 16#8 = some 10
      ∧ memberValue (.pktGroup2 (ramp 6)) 20#8 = some 1286
      ∧ memberValue (.pktGroup3 (ramp 10)) 26#8 = some 2314
      ∧ memberValue (.pktGroup4 (ramp 14)) 34#8 = some 14
      ∧ memberValue (.pktGroup5 (ramp 12)) 42#8 = some 2828
      ∧ memberValue (.pktGroup6 (ramp 52)) 42#8 = some 13108
      ∧ memberValue (.pktGroup100 (ramp 80)) 58#8 = some 80
      ∧ memberValue (.pktGroup101 (ramp 28)) 58#8 = some 28
      ∧ memberValue (.pktGroup106 (ramp 12)) 51#8 = some 2828
      ∧ memberValue (.pktGroup107 (ramp 9)) 58#8 = some 9 := by
  decide +kernel

/-- V6 and V7: a group one byte short, and an unknown ID. -/
theorem test_decode_rejected :
    answers defaultConfig (.pktGroup100 (ramp 79)) = [.decoded (.error .structuralLengthMismatch)]
      ∧ answers defaultConfig (.decode 59#8 [0#8]) = [.decoded (.error .unknownPacket)] := by
  decide +kernel

/-- 95 section 4: packet 43 without SIGNED_ENCODER_COUNTS. -/
theorem test_unsigned_encoder_counts :
    answers { defaultConfig with signedEncoderCounts := false } (.pktLeftEncoderCounts [128#8, 0#8])
      = [.decoded (.record [(43#8, 32768)])] := by
  decide +kernel

/-! ## One step of the stream unit -/

/-- A block whose stream unit is in the given state. -/
def unit (st : ScanState) (len : Byte) (payload : List Byte) (sum : Byte) : State :=
  { State.reset with sState := st, sLen := len, sPayload := payload, sSum := sum }

/-- V10, steps 1 to 4. -/
theorem test_stream_steps_before_the_checksum :
    exec (.streamStep (.byte 19#8)) State.reset = .next (withEvents [.none] (unit .readLength 0#8 [] 19#8))
      ∧ exec (.streamStep (.byte 2#8)) (unit .readLength 0#8 [] 19#8)
        = .next (withEvents [.none] (unit .accumPayload 2#8 [] 21#8))
      ∧ exec (.streamStep (.byte 7#8)) (unit .accumPayload 2#8 [] 21#8)
        = .next (withEvents [.none] (unit .accumPayload 2#8 [7#8] 28#8))
      ∧ exec (.streamStep (.byte 1#8)) (unit .accumPayload 2#8 [7#8] 28#8)
        = .next (withEvents [.none] (unit .readChecksum 2#8 [7#8, 1#8] 29#8)) :=
  ⟨rfl, rfl, rfl, rfl⟩

/-- V10, step 5, and the other outcomes of V8. -/
theorem test_stream_checksum_step :
    exec (.streamStep (.byte 227#8)) (unit .readChecksum 2#8 [7#8, 1#8] 29#8)
        = .next (withEvents [.frame [(7#8, 1)]] State.reset)
      ∧ exec (.streamStep (.byte 204#8)) (unit .readChecksum 2#8 [29#8, 2#8] 52#8)
        = .next (withEvents [.framingDesync] State.reset)
      ∧ exec (.streamStep (.byte 205#8)) (unit .readChecksum 2#8 [29#8, 2#8] 52#8)
        = .next (withEvents [.checksumFailure] State.reset) :=
  ⟨rfl, rfl, rfl⟩

/-- V9: STREAM_RESET in the middle of a frame. -/
theorem test_stream_reset : exec .streamReset (unit .accumPayload 5#8 [29#8] 53#8) = .next State.reset := rfl

/-! ## The hypotheses of the statements can be met

One theorem per statement that has hypotheses: concrete states and operands that meet all of them together, for each of
its clauses and at the boundary values of its ranges. -/

/-- A block with one word at the port. -/
def withPort (word : List Byte) : State := { State.reset with port := [word] }

/-- A catalog that is not well formed: no packet has an entry. -/
def noPackets : Config := { defaultConfig with pktCatalog := [] }

/-- The other group policy. -/
def expanding : Config := { defaultConfig with streamGroupPolicy := .expandGroups }

/-- The entry of DRIVE under either profile. -/
def driveSpec : CommandSpec :=
  ⟨"DRIVE", .fixed 4, [s16 1 (-500) 500, withSentinels [32767, -32768] (s16 3 (-2000) 2000)]⟩

/-- The entry of STREAM under either profile. -/
def streamSpec : CommandSpec := ⟨"STREAM", .prefixed 1 1 1, []⟩

theorem test_default_admitted : admitted defaultConfig = true := by decide +kernel

theorem test_drive_entry : commandSpec defaultConfig 137#8 = some driveSpec := by decide +kernel

theorem test_stream_entry : commandSpec defaultConfig 148#8 = some streamSpec := by decide +kernel

theorem test_leaf_entry : packetSpec defaultConfig 24#8 = some (.leaf "TEMPERATURE" 1 true) := by decide +kernel

theorem test_group_entry : packetSpec defaultConfig 2#8 = some (.group [17#8, 18#8, 19#8, 20#8]) := by decide +kernel

theorem test_witness_StepRunsTheDecodedTransaction :
    (withPort [3#8]).port = [3#8] :: [] ∧ decode [3#8] = .ok .streamReset ∧ State.reset.port = []
      ∧ (withPort [4#8]).port = [4#8] :: [] ∧ decode [4#8] = .error (.noSuchSelector 4#8) :=
  ⟨rfl, rfl, rfl, rfl, rfl⟩

theorem test_witness_DecodeOfEncode :
    (Instr.validate []).wellFormed = true ∧ (Instr.decode 255#8 []).wellFormed = true
      ∧ (Instr.drive []).wellFormed = true := by
  decide

theorem test_witness_EncodeOfDecode :
    decode [0#8] = .ok (.validate []) ∧ decode [1#8, 7#8] = .ok (.pktBumpsWheelDrops [])
      ∧ decode [2#8, 0#8, 255#8] = .ok (.streamStep (.byte 255#8)) :=
  ⟨rfl, rfl, rfl⟩

theorem test_witness_NoFifthSelector :
    4 ≤ (4#8 : Byte).toNat ∧ 4 ≤ (255#8 : Byte).toNat ∧ (withPort [4#8, 0#8]).port = [4#8, 0#8] :: []
      ∧ (withPort [255#8]).port = [255#8] :: [] :=
  ⟨by decide, by decide, rfl, rfl⟩

theorem test_witness_ResetStateIsR33 : admitted defaultConfig = true := test_default_admitted

theorem test_witness_CatalogAdmission :
    (CommandsWellFormed defaultConfig ∧ PacketsWellFormed defaultConfig)
      ∧ ¬(CommandsWellFormed noPackets ∧ PacketsWellFormed noPackets) :=
  ⟨⟨commandsWellFormed_of_admitted test_default_admitted, packetsWellFormed_of_admitted test_default_admitted⟩,
    fun h => by obtain ⟨_, _, h⟩ := h.2.packet29; cases h⟩

theorem test_witness_GroupTotals :
    admitted defaultConfig = true ∧ (0#8, 7, 26, 26) ∈ listedGroups ∧ (107#8, 54, 58, 9) ∈ listedGroups :=
  ⟨test_default_admitted, by decide, by decide⟩

/-- The first and the last packet of each of the two ranges. -/
theorem test_witness_ForcedLeafWidths :
    admitted defaultConfig = true ∧ 7 ≤ (7#8 : Byte).toNat ∧ (16#8 : Byte).toNat ≤ 16 ∧ 46 ≤ (46#8 : Byte).toNat
      ∧ (51#8 : Byte).toNat ≤ 51 :=
  ⟨test_default_admitted, by decide, by decide, by decide, by decide⟩

theorem test_witness_NoStepChangesTheCatalogs :
    step (withPort [3#8]) = .next State.reset ∧ admitted (withPort [3#8]).cfg = true :=
  ⟨rfl, test_default_admitted⟩

/-- One state of each of the four kinds, the boundary counts among them, and a step from it. -/
theorem test_witness_EveryStepKeepsTheFrameInvariant :
    (FrameInv (withPort [3#8]) ∧ step (withPort [3#8]) = .next State.reset)
      ∧ FrameInv (unit .readLength 200#8 [] 19#8) ∧ FrameInv (unit .accumPayload 2#8 [7#8] 28#8)
      ∧ FrameInv (unit .readChecksum 2#8 [7#8, 1#8] 29#8) ∧ FrameInv (unit .readChecksum 0#8 [] 19#8)
      ∧ step (unit .readChecksum 0#8 [] 19#8) = .next (unit .readChecksum 0#8 [] 19#8) :=
  ⟨⟨.inl ⟨rfl, rfl, rfl, rfl⟩, rfl⟩, by decide, by decide, by decide, by decide, rfl⟩

theorem test_witness_StreamStepBeforeTheChecksum :
    State.reset.sState = .seekHeader ∧ (18#8 : Byte) ≠ 19#8 ∧ (20#8 : Byte) ≠ 19#8
      ∧ (unit .readLength 0#8 [] 19#8).sState = .readLength ∧ FrameInv (unit .readLength 0#8 [] 19#8)
      ∧ (unit .accumPayload 1#8 [] 20#8).sState = .accumPayload
      ∧ (unit .accumPayload 255#8 [] 18#8).sState = .accumPayload := by
  decide

/-- A sum that passes, a sum that fails, and a payload that does not demultiplex. -/
theorem test_witness_ChecksumStepOutcome :
    FrameInv (unit .readChecksum 2#8 [7#8, 1#8] 29#8) ∧ (19 + 2 + (7 + 1) + 227) % 256 = 0
      ∧ demux defaultConfig [7#8, 1#8] = some [(7#8, 1)]
      ∧ FrameInv (unit .readChecksum 1#8 [60#8] 80#8) ∧ (19 + 1 + 60 + 176) % 256 = 0
      ∧ demux defaultConfig [60#8] = none ∧ (19 + 1 + 60 + 177) % 256 ≠ 0
      ∧ (unit .readChecksum 1#8 [60#8] 80#8).sState = .readChecksum := by
  decide +kernel

/-- Each of the five events, and two different units in their reset states. -/
theorem test_witness_FrameOutcomesResetTheUnit :
    exec (.streamStep (.byte 227#8)) (unit .readChecksum 2#8 [7#8, 1#8] 29#8)
        = .next (withEvents [.frame [(7#8, 1)]] State.reset)
      ∧ exec (.streamStep .ioError) (unit .readLength 0#8 [] 19#8) = .next (withEvents [.ioError] State.reset)
      ∧ exec (.streamStep .endOfStream) State.reset = .next (withEvents [.endOfStream] State.reset)
      ∧ (withEvents [.ioError] State.reset).outputs = State.reset.outputs ++ [.streamed .ioError]
      ∧ UnitReset State.reset ∧ UnitReset (withEvents [.ioError] State.reset)
      ∧ State.reset.cfg = (withEvents [.ioError] State.reset).cfg :=
  ⟨rfl, rfl, rfl, rfl, ⟨rfl, rfl, rfl, rfl⟩, ⟨rfl, rfl, rfl, rfl⟩, rfl⟩

theorem test_witness_EmittedFrameSumsToZero :
    FrameInv (unit .readChecksum 2#8 [7#8, 1#8] 29#8)
      ∧ exec (.streamStep (.byte 227#8)) (unit .readChecksum 2#8 [7#8, 1#8] 29#8)
        = .next (withEvents [.frame [(7#8, 1)]] State.reset)
      ∧ (withEvents [.frame [(7#8, 1)]] State.reset).outputs
        = (unit .readChecksum 2#8 [7#8, 1#8] 29#8).outputs ++ [.streamed (.frame [(7#8, 1)])] :=
  ⟨by decide, rfl, rfl⟩

/-- No payload byte, and the most of them. -/
theorem test_witness_WholeFrameRun :
    State.reset.sState = .seekHeader ∧ ([] : List Byte).length ≤ 255 ∧ (List.replicate 255 0#8).length ≤ 255
      ∧ (237#8 : Byte).toNat = goodChecksum [] ∧ (238#8 : Byte).toNat = goodChecksum (List.replicate 255 0#8) := by
  decide +kernel

theorem test_witness_ExactlyOneChecksumPasses :
    State.reset.sState = .seekHeader ∧ ([] : List Byte).length ≤ 255 ∧ (List.replicate 255 0#8).length ≤ 255 := by
  decide +kernel

theorem test_witness_OneCorruptByteGivesChecksumFailure :
    State.reset.sState = .seekHeader ∧ [29#8, 2#8, 25#8, 13#8, 0#8].length ≤ 255
      ∧ (163#8 : Byte).toNat = goodChecksum [29#8, 2#8, 25#8, 13#8, 0#8]
      ∧ [29#8, 2#8, 25#8, 13#8, 0#8][0]? ≠ some 30#8 ∧ [29#8, 2#8, 25#8, 13#8, 0#8][4]? ≠ some (255#8 : Byte)
      ∧ (164#8 : Byte) ≠ 163#8 ∧ (18#8 : Byte) ≠ 19#8 := by
  decide

theorem test_witness_CorruptLengthOfTheExampleFrame :
    (0#8 : Byte).toNat < 5 ∧ (4#8 : Byte).toNat < 5 ∧ 5 < (6#8 : Byte).toNat ∧ 5 < (255#8 : Byte).toNat := by
  decide

theorem test_witness_EmptyFrame : State.reset.sState = .seekHeader := rfl

/-- After one record: an unknown ID, a group under LEAF_ONLY, and a leaf one data byte short. -/
theorem test_witness_DemuxDesyncs :
    demux defaultConfig [7#8, 1#8] = some [(7#8, 1)] ∧ packetSpec defaultConfig 59#8 = none
      ∧ packetSpec defaultConfig 2#8 = some (.group [17#8, 18#8, 19#8, 20#8])
      ∧ defaultConfig.streamGroupPolicy = .leafOnly
      ∧ packetSpec defaultConfig 29#8 = some (.leaf "CLIFF_FRONT_LEFT_SIGNAL" 2 false)
      ∧ [2#8].length < totalWidth defaultConfig [29#8] := by
  decide +kernel

theorem test_witness_StreamLeafEqualsDecode :
    packetSpec State.reset.cfg 24#8 = some (.leaf "TEMPERATURE" 1 true) ∧ [231#8].length = 1
      ∧ DefaultPackets defaultConfig :=
  ⟨test_leaf_entry, rfl, rfl⟩

theorem test_witness_GroupIdsInStreams :
    packetSpec State.reset.cfg 2#8 = some (.group [17#8, 18#8, 19#8, 20#8])
      ∧ State.reset.cfg.streamGroupPolicy = .leafOnly
      ∧ packetSpec (State.fresh expanding).cfg 2#8 = some (.group [17#8, 18#8, 19#8, 20#8])
      ∧ (State.fresh expanding).cfg.streamGroupPolicy = .expandGroups
      ∧ [0#8, 1#8, 255#8, 254#8, 0#8, 90#8].length = totalWidth expanding [17#8, 18#8, 19#8, 20#8] := by
  decide +kernel

theorem test_witness_EveryTransactionAnswers :
    Instr.start [] ≠ .streamReset ∧ (∀ ev, Instr.start [] ≠ .streamStep ev) :=
  ⟨nofun, nofun⟩

theorem test_witness_RowsAreTransactions :
    (∃ row ∈ commandRows, row.opcode = 7#8) ∧ (∃ row ∈ commandRows, row.opcode = 173#8)
      ∧ (∃ row ∈ packetRows, row.id = 0#8) ∧ ∃ row ∈ packetRows, row.id = 107#8 := by
  decide +kernel

theorem test_witness_ValidateAndDecodeCommuteWithSteps :
    (∃ buf, Instr.validate [137#8] = .validate buf) ∧ ∃ id buf, Instr.decode 7#8 [1#8] = .decode id buf :=
  ⟨⟨_, rfl⟩, ⟨_, _, rfl⟩⟩

/-- A result that names a field. -/
theorem test_witness_ValidateTripleShape :
    validateBuffer defaultConfig [137#8, 0#8, 0#8, 7#8, 209#8] = ⟨false, .fieldOutOfRange, some 1⟩ := by
  decide +kernel

theorem test_witness_UnknownOpcodes :
    commandSpec State.reset.cfg 0#8 = none ∧ commandSpec State.reset.cfg 255#8 = none ∧ DefaultCommands State.reset.cfg :=
  ⟨by decide +kernel, by decide +kernel, rfl, rfl⟩

/-- One data byte too few and too many; no prefix byte; a prefix that asks for one more or one fewer. -/
theorem test_witness_WrongLengthIsRejected :
    commandSpec State.reset.cfg 137#8 = some driveSpec ∧ [0#8, 0#8, 0#8].length ≠ 4
      ∧ [0#8, 0#8, 0#8, 0#8, 0#8].length ≠ 4 ∧ commandSpec State.reset.cfg 148#8 = some streamSpec
      ∧ [148#8].length ≤ 1 ∧ [148#8, 1#8][1]? = some (1#8 : Byte) ∧ [1#8].length ≠ 1 + 1 * (1#8 : Byte).toNat
      ∧ [0#8, 0#8].length ≠ 1 + 1 * (0#8 : Byte).toNat :=
  ⟨test_drive_entry, by decide, by decide, test_stream_entry, by decide, by decide, by decide, by decide⟩

/-- Every field at a bound or a sentinel; field 1 one past its bound and field 0 in its domain. -/
theorem test_witness_RangeCheckReportsTheFirstBadField :
    commandSpec State.reset.cfg 137#8 = some driveSpec
      ∧ dataBytes driveSpec.length [137#8, 1#8, 244#8, 128#8, 0#8] = some 4
      ∧ (∀ f ∈ driveSpec.fields, inDomain f (fieldValue f [137#8, 1#8, 244#8, 128#8, 0#8]) = true)
      ∧ (driveSpec.fields.map fun f => inDomain f (fieldValue f [137#8, 254#8, 12#8, 7#8, 209#8])) = [true, false] :=
  ⟨test_drive_entry, rfl, by decide, by decide⟩

/-- Velocity 500 and 501, and -500 and -501, with radius 0. -/
theorem test_witness_PerturbationLaw :
    admitted State.reset.cfg = true ∧ commandSpec State.reset.cfg 137#8 = some driveSpec
      ∧ driveSpec.fields[0]? = some (s16 1 (-500) 500)
      ∧ dataBytes driveSpec.length [137#8, 1#8, 244#8, 0#8, 0#8] = some 4
      ∧ dataBytes driveSpec.length [137#8, 1#8, 245#8, 0#8, 0#8] = some 4
      ∧ (∀ k, ¬(1 ≤ k ∧ k < 1 + 2) → [137#8, 1#8, 245#8, 0#8, 0#8][k]? = [137#8, 1#8, 244#8, 0#8, 0#8][k]?)
      ∧ (∀ k, ¬(1 ≤ k ∧ k < 1 + 2) → [137#8, 254#8, 11#8, 0#8, 0#8][k]? = [137#8, 254#8, 12#8, 0#8, 0#8][k]?)
      ∧ (∀ j g, j ≠ 0 → driveSpec.fields[j]? = some g →
          inDomain g (fieldValue g [137#8, 1#8, 244#8, 0#8, 0#8]) = true
            ∧ inDomain g (fieldValue g [137#8, 254#8, 12#8, 0#8, 0#8]) = true)
      ∧ fieldValue (s16 1 (-500) 500) [137#8, 1#8, 244#8, 0#8, 0#8] = 500
      ∧ fieldValue (s16 1 (-500) 500) [137#8, 1#8, 245#8, 0#8, 0#8] = 501
      ∧ fieldValue (s16 1 (-500) 500) [137#8, 254#8, 12#8, 0#8, 0#8] = -500
      ∧ fieldValue (s16 1 (-500) 500) [137#8, 254#8, 11#8, 0#8, 0#8] = -501
      ∧ (501 : Int) ∉ (s16 1 (-500) 500).sentinels ∧ (-501 : Int) ∉ (s16 1 (-500) 500).sentinels := by
  refine ⟨test_default_admitted, test_drive_entry, rfl, rfl, rfl, ?_, ?_, ?_, by decide, by decide, by decide, by decide,
    by decide, by decide⟩
  · rintro (_ | _ | _ | _ | _ | k) h <;> first | rfl | exact absurd ⟨by omega, by omega⟩ h
  · rintro (_ | _ | _ | _ | _ | k) h <;> first | rfl | exact absurd ⟨by omega, by omega⟩ h
  · rintro (_ | _ | j) g h hg
    · exact absurd rfl h
    · cases hg; decide
    · cases hg

theorem test_witness_FieldReadsStayInTheBuffer :
    admitted defaultConfig = true ∧ commandSpec defaultConfig 137#8 = some driveSpec
      ∧ dataBytes driveSpec.length [137#8, 1#8, 244#8, 0#8, 0#8] = some 4 ∧ driveSpec.fields ≠ []
      ∧ packetSpec defaultConfig 2#8 = some (.group [17#8, 18#8, 19#8, 20#8])
      ∧ (ramp 6).length = totalWidth defaultConfig [17#8, 18#8, 19#8, 20#8]
      ∧ [17#8, 18#8, 19#8, 20#8][3]? = some (20#8 : Byte) ∧ 3 + 1 = [17#8, 18#8, 19#8, 20#8].length :=
  ⟨test_default_admitted, test_drive_entry, rfl, by decide, test_group_entry, by decide +kernel, rfl, rfl⟩

/-- For CommandsWithoutDataBytes, CommandsCheckedByLengthAlone, VariableLengthCommands, DriveCommand,
OneByteCommandsWithDomains, MotorCommandsWithDomains, DigitLedCommands and ScheduleCommands: both profiles. -/
theorem test_witness_DefaultCommands :
    DefaultCommands State.reset.cfg ∧ State.reset.cfg.domainProfile = .source
      ∧ DefaultCommands (State.fresh extended).cfg ∧ (State.fresh extended).cfg.domainProfile = .extended :=
  ⟨⟨rfl, rfl⟩, rfl, ⟨rfl, rfl⟩, rfl⟩

/-- For UnsignedBytePackets, UnsignedWordPackets, SignedPackets, EncoderPackets and GroupPacketsAtTheirOffsets: encoder
counts of either sign. -/
theorem test_witness_DefaultPackets :
    DefaultPackets State.reset.cfg ∧ State.reset.cfg.signedEncoderCounts = true
      ∧ DefaultPackets { defaultConfig with signedEncoderCounts := false } :=
  ⟨rfl, rfl, rfl⟩

theorem test_witness_UnknownPackets :
    packetSpec State.reset.cfg 59#8 = none ∧ packetSpec State.reset.cfg 255#8 = none
      ∧ DefaultPackets State.reset.cfg :=
  ⟨by decide +kernel, by decide +kernel, rfl⟩

theorem test_witness_WrongResponseLength :
    packetSpec State.reset.cfg 2#8 = some (.group [17#8, 18#8, 19#8, 20#8])
      ∧ (ramp 5).length ≠ totalWidth State.reset.cfg [17#8, 18#8, 19#8, 20#8]
      ∧ (ramp 7).length ≠ totalWidth State.reset.cfg [17#8, 18#8, 19#8, 20#8] :=
  ⟨test_group_entry, by decide +kernel, by decide +kernel⟩

/-- The first and the last member of group 2. -/
theorem test_witness_MembersStandOneAfterAnother :
    packetSpec State.reset.cfg 2#8 = some (.group [17#8, 18#8, 19#8, 20#8])
      ∧ (ramp 6).length = totalWidth State.reset.cfg [17#8, 18#8, 19#8, 20#8]
      ∧ [17#8, 18#8, 19#8, 20#8][0]? = some (17#8 : Byte) ∧ [17#8, 18#8, 19#8, 20#8][3]? = some (20#8 : Byte) :=
  ⟨test_group_entry, by decide +kernel, rfl, rfl⟩

/-- Values at the ends of their ranges. -/
theorem test_witness_DecodeOfEncodedRecord :
    admitted State.reset.cfg = true ∧ packetSpec State.reset.cfg 2#8 = some (.group [17#8, 18#8, 19#8, 20#8])
      ∧ ([0, 255, -32768, 32767] : List Int).length = [17#8, 18#8, 19#8, 20#8].length
      ∧ ∀ p ∈ [17#8, 18#8, 19#8, 20#8].zip ([0, 255, -32768, 32767] : List Int),
          inRange (leafWidth State.reset.cfg p.1) (leafSigned State.reset.cfg p.1) p.2 = true :=
  ⟨test_default_admitted, test_group_entry, rfl, by decide +kernel⟩

theorem test_witness_EncodeOfDecodedRecord :
    admitted State.reset.cfg = true ∧ packetSpec State.reset.cfg 2#8 = some (.group [17#8, 18#8, 19#8, 20#8])
      ∧ (ramp 6).length = totalWidth State.reset.cfg [17#8, 18#8, 19#8, 20#8] :=
  ⟨test_default_admitted, test_group_entry, by decide +kernel⟩

/-- A record of a group of the default catalog. -/
def partRecord (first last : Nat) (buf : List Byte) : DecodeResult :=
  .record (memberPairs defaultConfig buf 0 (idRange first last))

/-- The parts of groups 0, 6 and 100, each on a response of its own. -/
theorem test_witness_GroupsAreConcatenations :
    admitted State.reset.cfg = true
      ∧ answersDecode (.pktGroup1 (ramp 10)) State.reset (partRecord 7 16 (ramp 10))
      ∧ answersDecode (.pktGroup2 (ramp 6)) State.reset (partRecord 17 20 (ramp 6))
      ∧ answersDecode (.pktGroup3 (ramp 10)) State.reset (partRecord 21 26 (ramp 10))
      ∧ answersDecode (.pktGroup0 (ramp 26)) State.reset (partRecord 7 26 (ramp 26))
      ∧ answersDecode (.pktGroup4 (ramp 14)) State.reset (partRecord 27 34 (ramp 14))
      ∧ answersDecode (.pktGroup5 (ramp 12)) State.reset (partRecord 35 42 (ramp 12))
      ∧ answersDecode (.pktGroup6 (ramp 52)) State.reset (partRecord 7 42 (ramp 52))
      ∧ answersDecode (.pktGroup101 (ramp 28)) State.reset (partRecord 43 58 (ramp 28)) :=
  ⟨test_default_admitted, rfl, rfl, rfl, rfl, rfl, rfl, rfl, rfl⟩


end Sys2Proof.Tests
end

section
/-! The range check of VALIDATE (41_command_validator.md R166): what the transaction answers, once the field that
decides is known. -/

namespace Sys2Proof.Machine

/-- The VALIDATE transaction answers the verdict of the Command Validator on its buffer, under the block's catalog. -/
theorem answersValidate_of_validateBuffer {s : State} {buf : List Byte} {r : ValidateResult}
    (h : validateBuffer s.cfg buf = r) : answersValidate (.validate buf) s r := by
  subst h; rfl

/-- The domain check of a declared field, on the bytes of the buffer it is read from. -/
theorem inDomain_fieldValue_iff (f : Field) (buf : List Byte) :
    inDomain f (fieldValue f buf) = true
      ↔ (f.min ≤ leafValue f.byteWidth f.signed ((buf.drop f.byteOffset).take f.byteWidth)
          ∧ leafValue f.byteWidth f.signed ((buf.drop f.byteOffset).take f.byteWidth) ≤ f.max)
        ∨ leafValue f.byteWidth f.signed ((buf.drop f.byteOffset).take f.byteWidth) ∈ f.sentinels := by
  rw [fieldValue_eq]
  exact inDomain_iff f _

section Fields

variable {c : Config} {op : Byte} {data : List Byte} {spec : CommandSpec}

/-- A command of the right length with every field in its domain is accepted. -/
theorem validateBuffer_eq_accepted (hs : commandSpec c op = some spec)
    (hl : dataBytes spec.length (op :: data) = some data.length)
    (hgood : ∀ f ∈ spec.fields, inDomain f (fieldValue f (op :: data)) = true) :
    validateBuffer c (op :: data) = accepted := by
  rw [validateBuffer_fields hs hl, firstFailing_eq_none.2 hgood, accepted]

/-- A command of the right length is rejected for the first of its fields that is outside its domain. -/
theorem validateBuffer_eq_outOfRange (hs : commandSpec c op = some spec)
    (hl : dataBytes spec.length (op :: data) = some data.length) {i : Nat} {f : Field} (hi : spec.fields[i]? = some f)
    (hbad : inDomain f (fieldValue f (op :: data)) = false)
    (hgood : ∀ j g, j < i → spec.fields[j]? = some g → inDomain g (fieldValue g (op :: data)) = true) :
    validateBuffer c (op :: data) = outOfRange i := by
  have hfirst : firstFailing (op :: data) 0 spec.fields = some (0 + i) :=
    firstFailing_eq_some.2 ⟨⟨f, hi, hbad⟩, hgood⟩
  rw [validateBuffer_fields hs hl, hfirst, Nat.zero_add, outOfRange]

end Fields

/-- Settles O37: the first field outside its domain decides, and with none the command is accepted. -/
theorem rangeCheckReportsTheFirstBadField : Obligations.RangeCheckReportsTheFirstBadField := by
  intro s op data spec hs hl
  simp only [← inDomain_fieldValue_iff, Bool.not_eq_true]
  refine ⟨fun hgood => ?accepted, fun i f hi hbad hgood => ?outOfRange⟩
  case accepted => exact answersValidate_of_validateBuffer (validateBuffer_eq_accepted hs hl hgood)
  case outOfRange =>
    exact answersValidate_of_validateBuffer (validateBuffer_eq_outOfRange hs hl hi hbad hgood)

end Sys2Proof.Machine
end

section
/-! The DECODE transaction (43_group_decoder.md R282, R284, R285): which IDs it does not know, which lengths it refuses,
and where the members of a response stand. -/

namespace Sys2Proof.Machine

/-- The DECODE transaction answers what the Packet Group Decoder makes of its buffer, under the block's catalog. -/
theorem answersDecode_of_decodeResponse {s : State} {id : Byte} {buf : List Byte} {r : DecodeResult}
    (h : decodeResponse s.cfg id buf = r) : answersDecode (.decode id buf) s r := by
  subst h; rfl

/-! ## IDs with no entry -/

/-- The lookup fails exactly on the IDs no entry of the catalog carries. -/
theorem packetSpec_eq_none_iff {c : Config} {id : Byte} :
    packetSpec c id = none ↔ id ∉ c.pktCatalog.map (·.id) := by
  simp [packetSpec]

/-- `mem_idRange_of_le` and its converse: no range that ends at 255 or before wraps around. -/
theorem mem_idRange_iff_le {first last : Nat} (hlast : last ≤ 255) {id : Byte} :
    id ∈ idRange first last ↔ first ≤ id.toNat ∧ id.toNat ≤ last := by
  refine ⟨fun h => ?_, fun h => mem_idRange_of_le h.1 h.2⟩
  obtain ⟨k, hk, rfl⟩ := mem_idRange.1 h
  have hval : (byte (first + k)).toNat = first + k := by
    rw [byte, BitVec.toNat_ofNat]
    exact Nat.mod_eq_of_lt (by omega)
  omega

/-- R79: the IDs of the default entries, as the four ranges they fill. -/
theorem defaultPktCatalog_ids :
    defaultPktCatalog.map (·.id) = idRange 7 58 ++ (idRange 0 6 ++ (idRange 100 101 ++ idRange 106 107)) := by
  decide +kernel

/-- R266: the IDs outside those four ranges. -/
theorem not_mem_defaultPktCatalog_ids_iff {id : Byte} :
    id ∉ defaultPktCatalog.map (·.id)
      ↔ (59 ≤ id.toNat ∧ id.toNat ≤ 99) ∨ (102 ≤ id.toNat ∧ id.toNat ≤ 105) ∨ 108 ≤ id.toNat := by
  rw [defaultPktCatalog_ids]
  simp only [List.mem_append, mem_idRange_iff_le (by decide : 58 ≤ 255), mem_idRange_iff_le (by decide : 6 ≤ 255),
    mem_idRange_iff_le (by decide : 101 ≤ 255), mem_idRange_iff_le (by decide : 107 ≤ 255)]
  omega

/-- Settles O49: the decoder looks the ID up before it looks at the buffer, and the default entries leave those IDs
out. -/
theorem unknownPackets : Obligations.UnknownPackets := by
  intro s id buf
  refine ⟨fun hunknown => ?answer, fun hdefault => ?ids⟩
  case answer => exact answersDecode_of_decodeResponse (decodeResponse_unknown hunknown buf)
  case ids => rw [packetSpec_eq_none_iff, hdefault, not_mem_defaultPktCatalog_ids_iff]

/-! ## The length check -/

/-- Settles O50: a known ID, so the length check decides. -/
theorem wrongResponseLength : Obligations.WrongResponseLength := by
  intro s id spec buf hs hl
  exact ⟨answersDecode_of_decodeResponse (decodeResponse_wrongLength hs hl), rfl⟩

/-! ## Where the members stand -/

/-- Member `k` ends where the member after it begins. -/
theorem totalWidth_take_succ (c : Config) {ms : List Byte} {k : Nat} {m : Byte} (h : ms[k]? = some m) :
    totalWidth c (ms.take (k + 1)) = totalWidth c (ms.take k) + leafWidth c m := by
  simp [List.take_add_one, h]

/-- Settles O51: the pairs are `memberPairs` of the members from offset 0, and the last member ends at the total
width. -/
theorem membersStandOneAfterAnother : Obligations.MembersStandOneAfterAnother := by
  intro s id spec buf hs hl
  refine ⟨memberPairs s.cfg buf 0 (membersOf id spec), answersDecode_of_decodeResponse (decodeResponse_ok hs hl),
    memberPairs_map_fst .., fun k m hk => ⟨?value, fun hlast => ?last⟩⟩
  case value => simpa only [Nat.zero_add, bytesAt] using memberPairs_getElem? s.cfg buf 0 hk
  case last => rw [← totalWidth_take_succ s.cfg hk, hlast, List.take_length, hl]

end Sys2Proof.Machine
end

section
/-! The Stream Frame Decoder (44_stream_decoder.md R302 to R304, R310, R319): what a byte does before the checksum, the
record of one leaf, and RLIB's worked example. -/

namespace Sys2Proof.Machine

/-! ## The step on a byte before the checksum -/

/-- STREAM_STEP on a byte runs the step on that byte. -/
theorem exec_streamStep_byte (b : Byte) (s : State) : exec (.streamStep (.byte b)) s = .next (byteStep b s) := rfl

section Steps

variable {s : State}

/-- R302: a header starts a frame. -/
theorem byteStep_header (hs : s.sState = .seekHeader) :
    byteStep 19#8 s = giveOutput (.streamed .none) { s with sState := .readLength, sSum := 19#8, sPayload := [] } := by
  simp only [byteStep, hs, seekHeaderStep_header]

/-- R302: any other byte is discarded. -/
theorem byteStep_noHeader (hs : s.sState = .seekHeader) {b : Byte} (hb : b ≠ 19#8) :
    byteStep b s = giveOutput (.streamed .none) s := by
  simp only [byteStep, hs, seekHeaderStep_other hb]

/-- R303: the byte is the length. -/
theorem byteStep_readLength (hs : s.sState = .readLength) (b : Byte) :
    byteStep b s = giveOutput (.streamed .none)
      { s with sState := if b = 0#8 then .readChecksum else .accumPayload, sLen := b, sSum := s.sSum + b } := by
  simp only [byteStep, hs, readLengthStep_eq]

/-- R304: the byte is the next of the payload, and the last one when the count reaches the length. -/
theorem byteStep_accumPayload (hs : s.sState = .accumPayload) (b : Byte) :
    byteStep b s = giveOutput (.streamed .none)
      { s with sState := if s.sPayload.length + 1 = s.sLen.toNat then .readChecksum else .accumPayload,
               sPayload := s.sPayload ++ [b], sSum := s.sSum + b } := by
  simp only [byteStep, hs, accumPayloadStep_eq]

/-- R305: the byte is the checksum; it ends the frame. -/
theorem byteStep_readChecksum (hs : s.sState = .readChecksum) (b : Byte) :
    byteStep b s = giveOutput (.streamed (frameOutcome s.cfg s.sSum s.sPayload b)) (resetUnit s) := by
  simp only [byteStep, hs]

/-- R453: no payload byte has been read when the length is due. -/
theorem sPayload_eq_nil_of_readLength (hs : s.sState = .readLength) (hinv : FrameInv s) : s.sPayload = [] := by
  obtain ⟨hseek, -⟩ | ⟨-, -, hnil⟩ | ⟨haccum, -⟩ | ⟨hcheck, -⟩ := hinv
  · rw [hs] at hseek; cases hseek
  · exact hnil
  · rw [hs] at haccum; cases haccum
  · rw [hs] at hcheck; cases hcheck

/-- A step on a byte that gives the event `out` and leaves the registers of `t` is the answer of the transaction. -/
theorem answersEvent_of_byteStep {t : State} {b : Byte} {out : StreamEvent} (houts : t.outputs = s.outputs)
    (h : byteStep b s = giveOutput (.streamed out) t) : answersEvent (.byte b) s t out := by
  rw [answersEvent, exec_streamStep_byte, h, giveOutput, houts]

/-- R302: bytes that are no header are discarded, however many. -/
theorem runAll_feed_noHeader (hs : s.sState = .seekHeader) {bs : List Byte} (hbs : ∀ b ∈ bs, b ≠ 19#8) :
    runAll (feed bs) s = .next (withEvents (List.replicate bs.length .none) s) := by
  induction bs generalizing s with
  | nil => simp
  | cons b bs ih =>
    obtain ⟨hb, hrest⟩ := List.forall_mem_cons.1 hbs
    rw [runAll_feed_cons, byteStep_noHeader hs hb, ih (s := giveOutput _ s) hs hrest]
    simp [withEvents, giveOutput, List.replicate_succ]

end Steps

/-- Settles O14: one lemma for each of the three scan states, and a run of three discarded bytes before a header. -/
theorem streamStepBeforeTheChecksum : Obligations.StreamStepBeforeTheChecksum := by
  refine ⟨fun s b => ⟨?header, ?noHeader, ?length, ?empty, ?payload⟩, ?run⟩
  case header =>
    rintro hs rfl
    exact answersEvent_of_byteStep rfl (byteStep_header hs)
  case noHeader => exact fun hs hb => answersEvent_of_byteStep rfl (byteStep_noHeader hs hb)
  case length => exact fun hs => answersEvent_of_byteStep rfl (byteStep_readLength hs b)
  case empty => exact sPayload_eq_nil_of_readLength
  case payload => exact fun hs => answersEvent_of_byteStep rfl (byteStep_accumPayload hs b)
  case run =>
    have discarded := runAll_feed_noHeader State.reset_sState (bs := [0#8, 255#8, 163#8]) (by decide)
    rw [show [0#8, 255#8, 163#8, 19#8] = [0#8, 255#8, 163#8] ++ [19#8] from rfl, feed_append,
      runAll_append discarded, runAll_feed_cons, byteStep_header (withEvents_sState ..)]
    rfl

/-! ## The record of one leaf -/

section Leaf

variable {c : Config} {id : Byte} {name : String} {w : Nat} {sg : Bool} {d : List Byte}

/-- R310: the pairs of a leaf's record are the one pair of its ID and value. -/
theorem fieldPairs_leaf (h : packetSpec c id = some (.leaf name w sg)) (hd : d.length = w) :
    fieldPairs c [id] d = [(id, leafValue w sg d)] := by
  rw [fieldPairs, memberPairs_cons, memberPairs_nil, leafWidth_of_leaf h, leafSigned_of_leaf h, bytesAt,
    List.drop_zero, List.take_of_length_le hd.le]

/-- R309, R310: a payload that begins with a leaf's record. -/
theorem demux_leaf_append (h : packetSpec c id = some (.leaf name w sg)) (hd : d.length = w) (rest : List Byte) :
    demux c (id :: (d ++ rest)) = (demux c rest).map ((id, leafValue w sg d) :: ·) := by
  have hw : d.length = totalWidth c [id] := by
    rw [totalWidth_cons, totalWidth_nil, leafWidth_of_leaf h, hd, Nat.add_zero]
  rw [demux_record (recordMembers_leaf h) hw, fieldPairs_leaf h hd]
  rfl

/-- R310: a payload that is a leaf's record. -/
theorem demux_leaf (h : packetSpec c id = some (.leaf name w sg)) (hd : d.length = w) :
    demux c (id :: d) = some [(id, leafValue w sg d)] := by
  simpa using demux_leaf_append h hd []

/-- R310: DECODE of a leaf's data bytes. -/
theorem decodeResponse_leaf_of_length (h : packetSpec c id = some (.leaf name w sg)) (hd : d.length = w) :
    decodeResponse c id d = .record [(id, leafValue w sg d)] := by
  rw [decodeResponse_leaf h, if_pos hd]

end Leaf

/-- A leaf of the default packets, other than the encoder counts. -/
theorem packetSpec_default_leaf {c : Config} (h : DefaultPackets c) {id : Byte} {name : String} {w : Nat} {sg : Bool}
    (he : defaultPktCatalog.find? (fun e => e.id == id) = some (leafEntry id name w sg))
    (hid : (id == 43#8 || id == 44#8) = false) : packetSpec c id = some (.leaf name w sg) := by
  rw [packetSpec_default h he, leafEntry, applyEncoderSign, hid]
  rfl

/-- R224: packet 29 of the default packets. -/
theorem packetSpec_29_default {c : Config} (h : DefaultPackets c) :
    packetSpec c 29#8 = some (.leaf "CLIFF_FRONT_LEFT_SIGNAL" 2 false) :=
  packetSpec_default_leaf h rfl rfl

/-- R219: packet 24 of the default packets. -/
theorem packetSpec_24_default {c : Config} (h : DefaultPackets c) :
    packetSpec c 24#8 = some (.leaf "TEMPERATURE" 1 true) :=
  packetSpec_default_leaf h rfl rfl

/-- R208: packet 13 of the default packets. -/
theorem packetSpec_13_default {c : Config} (h : DefaultPackets c) :
    packetSpec c 13#8 = some (.leaf "VIRTUAL_WALL" 1 false) :=
  packetSpec_default_leaf h rfl rfl

/-- Settles O28: the record and the response both give the pair of `fieldPairs_leaf`. -/
theorem streamLeafEqualsDecode : Obligations.StreamLeafEqualsDecode := by
  refine ⟨fun s id name w sg d h hd => ⟨demux_leaf h hd, ?decode⟩, fun c hc => ⟨?signal, ?temperature⟩⟩
  case decode => exact answersDecode_of_decodeResponse (decodeResponse_leaf_of_length h hd)
  case signal => exact demux_leaf (packetSpec_29_default hc) rfl
  case temperature => exact demux_leaf (packetSpec_24_default hc) rfl

/-! ## RLIB's worked example -/

/-- R305: the whole frame fed to a unit in SEEK_HEADER ends in the event of its checksum step. -/
theorem runAll_feed_frame {s : State} (hs : s.sState = .seekHeader) {p : List Byte} (hp : p.length ≤ 255) (c : Byte) :
    runAll (feed (frameBytes p c)) s
      = .next (withEvents (quietThen (p.length + 2) (frameOutcome s.cfg (frameSum (byte p.length) p) p c))
          (resetUnit s)) := by
  rw [show frameBytes p c = (19#8 :: byte p.length :: p) ++ [c] from rfl, feed_append,
    runAll_append (runAll_feed_body s p hs hp), runAll_feed_cons, byteStep_readChecksum rfl, runAll_feed_nil]
  simp [quietThen, withEvents, giveOutput, resetUnit, clearFrame, goTo]

/-- R29, R304: payload bytes are added to the sum, up to the last. -/
theorem sSum_after_payload {s : State} (hs : s.sState = .accumPayload) {q : List Byte}
    (hq : s.sPayload.length + q.length ≤ s.sLen.toNat) :
    ∃ t, runAll (feed q) s = .next t ∧ t.sLen = s.sLen ∧ t.sSum = q.foldl addToSum s.sSum := by
  obtain hlt | heq := hq.lt_or_eq
  · exact ⟨_, runAll_feed_payload q s hs hlt, rfl, rfl⟩
  · by_cases hne : q = []
    · subst hne; exact ⟨s, rfl, rfl, rfl⟩
    · exact ⟨_, runAll_feed_full q s hs hne heq, rfl, rfl⟩

/-- R29: after header, length and the first payload bytes the sum is that of the bytes so far. -/
theorem sSum_before_checksum {s : State} (hs : s.sState = .seekHeader) {n : Byte} (hn : n ≠ 0#8) {q : List Byte}
    (hq : q.length ≤ n.toNat) :
    ∃ t, runAll (feed (19#8 :: n :: q)) s = .next t ∧ t.sLen = n ∧ t.sSum = frameSum n q := by
  rw [runAll_feed_cons, byteStep_header hs, runAll_feed_cons, byteStep_readLength rfl, if_neg hn, frameSum,
    ← foldl_addToSum]
  exact sSum_after_payload rfl (by simpa using hq)

/-- R319: the payload of the example. -/
def examplePayload : List Byte := [29#8, 2#8, 25#8, 13#8, 0#8]

/-- R319: the two records of the example's payload. -/
theorem demux_examplePayload : demux defaultConfig examplePayload = some [(29#8, 537), (13#8, 0)] := by
  have wall : demux defaultConfig [13#8, 0#8] = some [(13#8, 0)] :=
    demux_leaf (packetSpec_13_default rfl) rfl
  have signal := demux_leaf_append (packetSpec_29_default (c := defaultConfig) rfl) (d := [2#8, 25#8]) rfl [13#8, 0#8]
  rw [wall] at signal
  exact signal

/-- R305, R319: with 163 as its checksum byte the example passes. -/
theorem frameOutcome_examplePayload :
    frameOutcome defaultConfig (frameSum 5#8 examplePayload) examplePayload 163#8
      = .frame [(29#8, 537), (13#8, 0)] := by
  have passes : checksumPasses (frameSum 5#8 examplePayload) 163#8 = true := by decide
  simp only [frameOutcome, passes, if_true, demux_examplePayload]

/-- Settles O24: the frame of `examplePayload`, and the sum after each number of its bytes. -/
theorem rlibExampleFrame : Obligations.RlibExampleFrame := by
  refine ⟨?frame, ?sums⟩
  case frame =>
    have run := runAll_feed_frame State.reset_sState (p := examplePayload) (by decide) 163#8
    rw [State.reset_cfg, show byte examplePayload.length = 5#8 from rfl, frameOutcome_examplePayload] at run
    exact run
  case sums =>
    intro e he
    have sumOfPart : e = (1, 19#8) ∨ (2 ≤ e.1 ∧ e.2 = frameSum 5#8 (examplePayload.take (e.1 - 2))) := by
      revert e
      decide
    obtain rfl | ⟨hk, hsum⟩ := sumOfPart
    · exact ⟨_, by rw [List.take_succ_cons, runAll_feed_cons, byteStep_header rfl]; rfl, rfl, nofun⟩
    · obtain ⟨k, hk⟩ := Nat.exists_eq_add_of_le' hk
      obtain ⟨t, hrun, hlen, hsSum⟩ := sSum_before_checksum State.reset_sState (n := 5#8) (by decide)
        (q := examplePayload.take k) (List.length_take_le' ..)
      rw [hk] at hsum ⊢
      exact ⟨t, hrun, hsSum.trans hsum.symm, fun _ => hlen⟩

end Sys2Proof.Machine
end

section
/-! The decoder and the encoder (30_encoding.md R82): the bytes of a transaction and its instruction determine each
other, and a row's instruction is the transaction with the row's code. -/

namespace Sys2Proof

/-! ## Decoding, part by part -/

/-- R77: the opcodes with no row. -/
theorem commandRow_eq_none_iff {op : Byte} : commandRow op = none ↔ commandOpcodes.contains op = false := by
  rw [← commandRow_isSome, Option.isSome_eq_false_iff, Option.isNone_iff_eq_none]

/-- R79: the IDs with no row. -/
theorem packetRow_eq_none_iff {id : Byte} : packetRow id = none ↔ packetIds.contains id = false := by
  rw [← packetRow_isSome, Option.isSome_eq_false_iff, Option.isNone_iff_eq_none]

/-- R82: a buffer whose byte 0 has no row stays a plain VALIDATE. -/
theorem decodeBuffer_of_not_namesCommandRow {buf : List Byte} (h : namesCommandRow buf = false) :
    decodeBuffer buf = .validate buf := by
  cases buf with
  | nil => rfl
  | cons op data => rw [decodeBuffer, commandRow_eq_none_iff.2 h]

/-- R82: an ID that has no row stays a plain DECODE. -/
theorem decodePacket_of_not_mem {id : Byte} (h : packetIds.contains id = false) (buf : List Byte) :
    decodePacket id buf = .decode id buf := by
  rw [decodePacket, packetRow_eq_none_iff.2 h]

/-- R82: the operands of STREAM_STEP spell its event. -/
theorem decodeEvent_encodeEvent (ev : SourceEvent) : decodeEvent (encodeEvent ev) = some ev := by
  cases ev <;> rfl

/-- R82: VALIDATE's operands are the buffer, whichever constructor it decodes to. -/
theorem decodeBuffer_form (buf : List Byte) :
    (decodeBuffer buf).wellFormed = true ∧ encode (decodeBuffer buf) = 0#8 :: buf := by
  cases buf with
  | nil => exact ⟨rfl, rfl⟩
  | cons op data =>
    cases hrow : commandRow op with
    | none =>
      rw [decodeBuffer, hrow]
      exact ⟨by simp only [Instr.wellFormed, namesCommandRow, commandRow_eq_none_iff.1 hrow, Bool.not_false], rfl⟩
    | some row =>
      obtain ⟨hmem, rfl⟩ := commandRow_spec hrow
      rw [decodeBuffer, hrow]
      exact commandRow_make row hmem data

/-- R82: DECODE's operands are the ID and the response buffer, whichever constructor it decodes to. -/
theorem decodePacket_form (id : Byte) (buf : List Byte) :
    (decodePacket id buf).wellFormed = true ∧ encode (decodePacket id buf) = 1#8 :: id :: buf := by
  cases hrow : packetRow id with
  | none =>
    rw [decodePacket, hrow]
    exact ⟨by simp only [Instr.wellFormed, packetRow_eq_none_iff.1 hrow, Bool.not_false], rfl⟩
  | some row =>
    obtain ⟨hmem, rfl⟩ := packetRow_spec hrow
    rw [decodePacket, hrow]
    exact packetRow_make row hmem buf

/-- R82: no two operand lists spell one event. -/
theorem encodeEvent_of_decodeEvent {operands : List Byte} {ev : SourceEvent} (h : decodeEvent operands = some ev) :
    encodeEvent ev = operands := by
  unfold decodeEvent at h
  split at h
  · split at h
    · next htag => cases h; rw [htag]; rfl
    · cases h
  · split at h
    · next htag => cases h; rw [htag]; rfl
    · split at h
      · next htag => cases h; rw [htag]; rfl
      · cases h
  · cases h

/-! ## Decoding, by the selector -/

section Selectors

variable (operands : List Byte)

/-- R82: selector 0. -/
theorem decode_selector_validate : decode (0#8 :: operands) = .ok (decodeBuffer operands) := rfl

/-- R82: selector 1, with an ID. -/
theorem decode_selector_decode (id : Byte) : decode (1#8 :: id :: operands) = .ok (decodePacket id operands) := rfl

/-- R82: selector 2. -/
theorem decode_selector_streamStep :
    decode (2#8 :: operands)
      = match decodeEvent operands with
        | some ev => .ok (.streamStep ev)
        | none => .error .notAnEvent := rfl

/-- R82: there is no other selector than 0 to 3. -/
theorem decode_noSuchSelector {sel : Byte} (h : 4 ≤ sel.toNat) :
    decode (sel :: operands) = .error (.noSuchSelector sel) := by
  have hne (k : Byte) (hk : k.toNat < 4) : sel ≠ k := fun e => by rw [e] at h; omega
  simp only [decode, if_neg (hne 0#8 (by decide)), if_neg (hne 1#8 (by decide)), if_neg (hne 2#8 (by decide)),
    if_neg (hne 3#8 (by decide))]

end Selectors

/-- All that the decoder accepts: one of the four transactions, with operands of its form. -/
theorem decode_eq_ok_cases {word : List Byte} {i : Instr} (h : decode word = .ok i) :
    (∃ buf, word = 0#8 :: buf ∧ i = decodeBuffer buf)
    ∨ (∃ id buf, word = 1#8 :: id :: buf ∧ i = decodePacket id buf)
    ∨ (∃ ev, word = 2#8 :: encodeEvent ev ∧ i = .streamStep ev)
    ∨ (word = [3#8] ∧ i = .streamReset) := by
  cases word with
  | nil => cases h
  | cons sel operands =>
    by_cases h0 : sel = 0#8
    · subst h0; cases h; exact .inl ⟨operands, rfl, rfl⟩
    by_cases h1 : sel = 1#8
    · subst h1
      cases operands with
      | nil => cases h
      | cons id buf => cases h; exact .inr (.inl ⟨id, buf, rfl, rfl⟩)
    by_cases h2 : sel = 2#8
    · subst h2
      rw [decode_selector_streamStep] at h
      cases hev : decodeEvent operands with
      | none => rw [hev] at h; cases h
      | some ev =>
        rw [hev] at h
        cases h
        exact .inr (.inr (.inl ⟨ev, by rw [encodeEvent_of_decodeEvent hev], rfl⟩))
    by_cases h3 : sel = 3#8
    · subst h3
      cases operands with
      | nil => cases h; exact .inr (.inr (.inr ⟨rfl, rfl⟩))
      | cons b bs => cases h
    · simp only [decode, if_neg h0, if_neg h1, if_neg h2, if_neg h3] at h
      cases h

/-- Settles O2: the generic constructors find no row for their code, and the word of a row's constructor carries the
code the row is found under. -/
theorem decodeOfEncode : Obligations.DecodeOfEncode := by
  intro i hwf
  cases i with
  | validate buf =>
    simp only [Instr.wellFormed, Bool.not_eq_true'] at hwf
    rw [encode, decode_selector_validate, decodeBuffer_of_not_namesCommandRow hwf]
  | decode id buf =>
    simp only [Instr.wellFormed, Bool.not_eq_true'] at hwf
    rw [encode, packetWord, decode_selector_decode, decodePacket_of_not_mem hwf]
  | streamStep ev => rw [encode, decode_selector_streamStep, decodeEvent_encodeEvent]
  | _ => rfl

/-- Settles O3: each of the four transactions keeps its selector and its operands. -/
theorem encodeOfDecode : Obligations.EncodeOfDecode := by
  intro word i h
  obtain ⟨buf, rfl, rfl⟩ | ⟨id, buf, rfl, rfl⟩ | ⟨ev, rfl, rfl⟩ | ⟨rfl, rfl⟩ := decode_eq_ok_cases h
  · exact decodeBuffer_form buf
  · exact decodePacket_form id buf
  · exact ⟨rfl, rfl⟩
  · exact ⟨rfl, rfl⟩

/-- Settles O4: each word is evaluated by the decoder. -/
theorem specWordsDecode : Obligations.SpecWordsDecode :=
  ⟨rfl, rfl, rfl, rfl, rfl, rfl, rfl, rfl, rfl, rfl, rfl, rfl, rfl⟩

end Sys2Proof

namespace Sys2Proof.Machine

/-! ## The step on a word at the port -/

section Step

variable {s : State} {word : List Byte} {rest : List (List Byte)}

/-- R58: the oldest word is run. -/
theorem step_of_decode_ok (hp : s.port = word :: rest) {i : Instr} (hd : decode word = .ok i) :
    step s = exec i { s with port := rest } := by
  simp only [step, takeTransaction_of_cons hp, hd]

/-- R82: a word that spells no transaction is refused. -/
theorem step_of_decode_error (hp : s.port = word :: rest) {why : PortError} (hd : decode word = .error why) :
    step s = .refused (.notATransaction why) := by
  simp only [step, takeTransaction_of_cons hp, hd]

/-- R421: with nothing issued the block waits. -/
theorem step_of_empty (hp : s.port = []) : step s = .next s := by
  simp only [step, takeTransaction_of_empty hp]

end Step

/-- Settles O1: a decoded word is in form by `encodeOfDecode`. -/
theorem stepRunsTheDecodedTransaction : Obligations.StepRunsTheDecodedTransaction := fun _ =>
  ⟨fun word _ i hp hd => ⟨(encodeOfDecode word i hd).1, step_of_decode_ok hp hd⟩, step_of_empty,
    fun _ _ _ hp hd => step_of_decode_error hp hd⟩

/-- Settles O5: the decoder names the selector, and the step passes its reason on. -/
theorem noFifthSelector : Obligations.NoFifthSelector := fun _ _ operands _ h =>
  ⟨decode_noSuchSelector operands h, fun hp => step_of_decode_error hp (decode_noSuchSelector operands h)⟩

/-! ## The rows -/

/-- R77: a command row is VALIDATE with the row's opcode before the data bytes. -/
theorem exec_commandRow : ∀ row ∈ commandRows, ∀ data s,
    exec (row.make data) s = exec (.validate (row.opcode :: data)) s := by
  simp only [commandRows, List.forall_mem_cons, List.not_mem_nil, false_implies, implies_true, and_true]
  repeat' apply And.intro
  all_goals exact fun _ _ => rfl

/-- R79: a packet row is DECODE of the row's ID. -/
theorem exec_packetRow : ∀ row ∈ packetRows, ∀ buf s,
    exec (row.make buf) s = exec (.decode row.id buf) s := by
  simp only [packetRows, leafRows, groupRows, List.cons_append, List.nil_append, List.forall_mem_cons, List.not_mem_nil,
    false_implies, implies_true, and_true]
  repeat' apply And.intro
  all_goals exact fun _ _ => rfl

/-- Settles O31: row by row, and the keys of the two maps are counted and compared. -/
theorem rowsAreTransactions : Obligations.RowsAreTransactions :=
  ⟨exec_commandRow, exec_packetRow, by decide +kernel, by decide +kernel, rfl, rfl⟩

end Sys2Proof.Machine
end

section
/-! One transaction on the block: what it changes, what it leaves unchanged, and the stream unit's invariant
(10_state.md R30 to R33, 44_stream_decoder.md R300 to R312, 70_reset_and_hazards.md R452 to R454). -/

namespace Sys2Proof.Machine

/-! ## The host's side of the state -/

/-- The block with another host side: its catalogs and its stream unit are those of `s`. -/
def onHost (port : List (List Byte)) (outputs : List Output) (s : State) : State :=
  { s with port := port, outputs := outputs }

section OnHost

variable (port : List (List Byte)) (outputs : List Output) (s : State)

@[simp] theorem onHost_cfg : (onHost port outputs s).cfg = s.cfg := rfl
@[simp] theorem onHost_sState : (onHost port outputs s).sState = s.sState := rfl
@[simp] theorem onHost_sLen : (onHost port outputs s).sLen = s.sLen := rfl
@[simp] theorem onHost_sPayload : (onHost port outputs s).sPayload = s.sPayload := rfl
@[simp] theorem onHost_sSum : (onHost port outputs s).sSum = s.sSum := rfl
@[simp] theorem onHost_port : (onHost port outputs s).port = port := rfl
@[simp] theorem onHost_outputs : (onHost port outputs s).outputs = outputs := rfl

/-- Every block is on its own host side. -/
theorem onHost_self : onHost s.port s.outputs s = s := rfl

end OnHost

/-- Two blocks with the same catalogs and the same stream unit differ in their host sides only. -/
theorem eq_onHost {s t : State} (hcfg : s.cfg = t.cfg) (hstate : s.sState = t.sState) (hlen : s.sLen = t.sLen)
    (hpayload : s.sPayload = t.sPayload) (hsum : s.sSum = t.sSum) : t = onHost t.port t.outputs s := by
  rw [onHost, hcfg, hstate, hlen, hpayload, hsum]

/-! ## What each transaction does, on any host side -/

/-- R169, R288: VALIDATE, DECODE and their rows read the catalogs only, and give one result. -/
theorem exec_result {i : Instr} (hstep : ∀ ev, i ≠ .streamStep ev) (hreset : i ≠ .streamReset) :
    ∃ result : Config → Output, ∀ s, exec i s = .next (giveOutput (result s.cfg) s) := by
  cases i with
  | streamStep ev => exact absurd rfl (hstep ev)
  | streamReset => exact absurd rfl hreset
  | _ =>
    first
      | exact ⟨fun c => .validated (validateBuffer c _), fun _ => rfl⟩
      | exact ⟨fun c => .decoded (decodeResponse c _ _), fun _ => rfl⟩

/-- R301: a step on a byte neither reads nor writes the host side but for its event. -/
theorem byteStep_onHost (b : Byte) (s : State) : ∃ out t, t.cfg = s.cfg ∧ ∀ port outputs,
    byteStep b (onHost port outputs s) = onHost port (outputs ++ [.streamed out]) t := by
  cases hs : s.sState with
  | seekHeader =>
    by_cases hb : b = 19#8
    · subst hb
      exact ⟨.none, { s with sState := .readLength, sSum := 19#8, sPayload := [] }, rfl, fun port outputs =>
        byteStep_header (s := onHost port outputs s) hs⟩
    · exact ⟨.none, s, rfl, fun port outputs => byteStep_noHeader (s := onHost port outputs s) hs hb⟩
  | readLength =>
    exact ⟨.none,
      { s with sState := if b = 0#8 then .readChecksum else .accumPayload, sLen := b, sSum := s.sSum + b }, rfl,
      fun port outputs => byteStep_readLength (s := onHost port outputs s) hs b⟩
  | accumPayload =>
    exact ⟨.none,
      { s with sState := if s.sPayload.length + 1 = s.sLen.toNat then .readChecksum else .accumPayload,
               sPayload := s.sPayload ++ [b], sSum := s.sSum + b }, rfl,
      fun port outputs => byteStep_accumPayload (s := onHost port outputs s) hs b⟩
  | readChecksum =>
    exact ⟨frameOutcome s.cfg s.sSum s.sPayload b, resetUnit s, rfl,
      fun port outputs => byteStep_readChecksum (s := onHost port outputs s) hs b⟩

/-- R300, R308: a STREAM_STEP gives one event, and reads and writes nothing else of the host side. -/
theorem exec_streamStep_onHost (ev : SourceEvent) (s : State) : ∃ out t, t.cfg = s.cfg ∧ ∀ port outputs,
    exec (.streamStep ev) (onHost port outputs s) = .next (onHost port (outputs ++ [.streamed out]) t) := by
  cases ev with
  | byte b =>
    obtain ⟨out, t, hcfg, h⟩ := byteStep_onHost b s
    exact ⟨out, t, hcfg, fun port outputs => congrArg Host.Outcome.next (h port outputs)⟩
  | ioError => exact ⟨.ioError, resetUnit s, rfl, fun _ _ => rfl⟩
  | endOfStream => exact ⟨.endOfStream, resetUnit s, rfl, fun _ _ => rfl⟩

/-- R312: STREAM_RESET gives nothing back. -/
theorem exec_streamReset (s : State) : exec .streamReset s = .next (resetUnit s) := rfl

/-- R413, R463: whatever a transaction does to the stream unit and gives back depends on the catalogs and the unit
alone. -/
theorem exec_onHost (i : Instr) (s : State) : ∃ outs t, t.cfg = s.cfg ∧ ∀ port outputs,
    exec i (onHost port outputs s) = .next (onHost port (outputs ++ outs) t) := by
  by_cases hreset : i = .streamReset
  · subst hreset
    exact ⟨[], resetUnit s, rfl, fun port outputs => by rw [List.append_nil]; rfl⟩
  by_cases hstep : ∃ ev, i = .streamStep ev
  · obtain ⟨ev, rfl⟩ := hstep
    obtain ⟨out, t, hcfg, h⟩ := exec_streamStep_onHost ev s
    exact ⟨[.streamed out], t, hcfg, h⟩
  · obtain ⟨result, h⟩ := exec_result (not_exists.1 hstep) hreset
    exact ⟨[result s.cfg], s, rfl, fun port outputs => h (onHost port outputs s)⟩

/-- R463: the same of a run. -/
theorem runAll_onHost (is : List Instr) (s : State) : ∃ outs t, ∀ port outputs,
    runAll is (onHost port outputs s) = .next (onHost port (outputs ++ outs) t) := by
  induction is generalizing s with
  | nil => exact ⟨[], s, fun _ _ => by rw [List.append_nil]; rfl⟩
  | cons i is ih =>
    obtain ⟨first, t, -, hexec⟩ := exec_onHost i s
    obtain ⟨rest, u, hrun⟩ := ih t
    refine ⟨first ++ rest, u, fun port outputs => ?_⟩
    simp only [runAll, hexec, hrun, List.append_assoc]

/-- R23: no transaction writes the catalogs. -/
theorem exec_next_cfg {i : Instr} {s t : State} (h : exec i s = .next t) : t.cfg = s.cfg := by
  obtain ⟨outs, u, hcfg, hexec⟩ := exec_onHost i s
  have hu := hexec s.port s.outputs
  rw [onHost_self, h] at hu
  cases hu
  exact hcfg

/-- Settles O30: STREAM_STEP and STREAM_RESET are looked at on their own, and everything else is `exec_result`. -/
theorem everyTransactionAnswers : Obligations.EveryTransactionAnswers := by
  intro i s
  by_cases hreset : i = .streamReset
  · subst hreset
    exact ⟨resetUnit s, rfl, rfl, rfl, fun _ => rfl, fun h => absurd rfl h, fun _ h => absurd rfl h⟩
  by_cases hstep : ∃ ev, i = .streamStep ev
  · obtain ⟨ev, rfl⟩ := hstep
    obtain ⟨out, t, hcfg, h⟩ := exec_streamStep_onHost ev s
    exact ⟨_, h s.port s.outputs, hcfg, rfl, nofun, fun _ => ⟨_, rfl⟩, fun hno => absurd rfl (hno ev)⟩
  · obtain ⟨result, h⟩ := exec_result (not_exists.1 hstep) hreset
    exact ⟨_, h s, rfl, rfl, fun e => absurd e hreset, fun _ => ⟨_, rfl⟩, fun _ _ => ⟨rfl, rfl, rfl, rfl⟩⟩

/-- Settles O17: the event is the one of `exec_streamStep_onHost`. -/
theorem everyStreamStepGivesOneEvent : Obligations.EveryStreamStepGivesOneEvent := by
  intro s ev
  obtain ⟨out, t, hcfg, h⟩ := exec_streamStep_onHost ev s
  exact ⟨_, out, h s.port s.outputs, rfl, hcfg, rfl⟩

/-- Settles O11: a step waits or runs one transaction, and `exec_next_cfg` says what that leaves unchanged. -/
theorem noStepChangesTheCatalogs : Obligations.NoStepChangesTheCatalogs := by
  intro s t h
  have hcfg : t.cfg = s.cfg := by
    obtain ⟨-, rfl⟩ | ⟨word, rest, i, -, -, hexec⟩ := step_next h
    · rfl
    · exact exec_next_cfg (s := { s with port := rest }) hexec
  exact ⟨hcfg, fun ha => hcfg ▸ ha⟩

/-- Settles O32: the VALIDATE or DECODE result is a function of the catalogs, which the step keeps, and the step does
not read the results given before it. -/
theorem validateAndDecodeCommuteWithSteps : Obligations.ValidateAndDecodeCommuteWithSteps := by
  intro i ev s hi
  have hresult : ∃ result : Config → Output, ∀ s, exec i s = .next (giveOutput (result s.cfg) s) := by
    obtain ⟨buf, rfl⟩ | ⟨id, buf, rfl⟩ := hi <;> exact exec_result nofun nofun
  obtain ⟨result, hexec⟩ := hresult
  obtain ⟨out, t, hcfg, hstep⟩ := exec_streamStep_onHost ev s
  have hstep' := hstep s.port
  refine ⟨result s.cfg, out, onHost s.port s.outputs t, hexec s, hstep' s.outputs, ?resultFirst, ?stepFirst⟩
  case resultFirst =>
    have hafter : exec (.streamStep ev) (giveOutput (result s.cfg) s) = _ := hstep' (s.outputs ++ [result s.cfg])
    simp only [runAll, hexec, hafter, List.append_assoc]
    rfl
  case stepFirst =>
    have hbefore : exec (.streamStep ev) s = _ := hstep' s.outputs
    simp only [runAll, hbefore, hexec, onHost_cfg, hcfg, giveOutput, onHost_outputs, List.append_assoc]
    rfl

/-! ## The stream unit in its reset state -/

/-- Settles O7: the four registers are written, and nothing else is. -/
theorem streamResetClearsTheUnit : Obligations.StreamResetClearsTheUnit := fun s =>
  ⟨exec_streamReset s, rfl, rfl, rfl, rfl⟩

/-- R33: the unit of a fresh block is in its reset state. -/
theorem unitReset_fresh (c : Config) : UnitReset (State.fresh c) := ⟨rfl, rfl, rfl, rfl⟩

/-- R33, R312: after `resetUnit` the unit is in its reset state. -/
theorem unitReset_resetUnit (s : State) : UnitReset (resetUnit s) := ⟨rfl, rfl, rfl, rfl⟩

/-- Settles O16: the error resets the unit, so that a header after it is read in SEEK_HEADER. -/
theorem sourceErrorsDiscardTheFrame : Obligations.SourceErrorsDiscardTheFrame := by
  intro s
  have header (ev : StreamEvent) (src : SourceEvent)
      (hsrc : exec (.streamStep src) s = .next (sourceErrorStep ev s)) :
      runAll [.streamStep src, .streamStep (.byte 19#8)] s
        = .next (withEvents [ev, .none]
            { s with sState := .readLength, sLen := 0#8, sPayload := [], sSum := 19#8 }) := by
    have hbyte := byteStep_header (s := sourceErrorStep ev s) rfl
    simp only [runAll, hsrc, exec_streamStep_byte, hbyte]
    simp [sourceErrorStep, giveOutput, withEvents, resetUnit, clearFrame, goTo]
  exact ⟨rfl, rfl, header .ioError .ioError rfl, header .endOfStream .endOfStream rfl⟩

/-- One step gives one event. -/
theorem streamed_append_inj {outs : List Output} {ev ev' : StreamEvent}
    (h : outs ++ [.streamed ev] = outs ++ [.streamed ev']) : ev = ev' := by
  simpa using h

/-- R302 to R305: a byte gives None, or it is a checksum byte. -/
theorem byteStep_quiet_or_checksum (b : Byte) (s : State) :
    (byteStep b s).outputs = s.outputs ++ [.streamed .none]
    ∨ (s.sState = .readChecksum
      ∧ byteStep b s = giveOutput (.streamed (frameOutcome s.cfg s.sSum s.sPayload b)) (resetUnit s)) := by
  obtain ⟨-, -, h⟩ | ⟨-, -, h⟩ | ⟨-, h⟩ | ⟨-, h⟩ | h := byteStep_cases b s
  on_goal 5 => exact .inr h
  all_goals exact .inl (congrArg State.outputs h)

/-- R452: every event but None leaves the unit in its reset state. -/
theorem unitReset_of_event {s t : State} {ev : SourceEvent} {out : StreamEvent} (h : exec (.streamStep ev) s = .next t)
    (hout : t.outputs = s.outputs ++ [.streamed out]) (hne : out ≠ .none) : UnitReset t := by
  obtain ⟨b, -, rfl⟩ | ⟨-, rfl⟩ | ⟨-, rfl⟩ := runStreamStep_spec h
  · obtain hquiet | ⟨-, hb⟩ := byteStep_quiet_or_checksum b s
    · exact absurd (streamed_append_inj (hout.symm.trans hquiet)) hne
    · rw [hb]; exact unitReset_resetUnit s
  · exact unitReset_resetUnit s
  · exact unitReset_resetUnit s

/-- Settles O18: two reset units on the same catalogs differ in their host sides only, which no run reads. -/
theorem frameOutcomesResetTheUnit : Obligations.FrameOutcomesResetTheUnit := by
  refine ⟨fun s t ev out => unitReset_of_event, fun s t is hs ht hcfg => ?_⟩
  obtain ⟨hstate, hlen, hpayload, hsum⟩ := hs
  obtain ⟨hstate', hlen', hpayload', hsum'⟩ := ht
  have heq : t = onHost t.port t.outputs s :=
    eq_onHost hcfg (hstate.trans hstate'.symm) (hlen.trans hlen'.symm) (hpayload.trans hpayload'.symm)
      (hsum.trans hsum'.symm)
  obtain ⟨outs, u, hrun⟩ := runAll_onHost is s
  have hrun' : runAll is t = _ := (congrArg (runAll is) heq).trans (hrun t.port t.outputs)
  exact ⟨outs, _, _, hrun s.port s.outputs, hrun', rfl, rfl, rfl, rfl, rfl, rfl⟩

/-! ## The invariant of R453 -/

/-- R29: the sum after one more payload byte. -/
theorem sumHolds_append {s : State} (h : SumHolds s) (b : Byte) :
    (s.sSum + b).toNat = (19 + s.sLen.toNat + natSum (s.sPayload ++ [b])) % 256 := by
  rw [BitVec.toNat_add, h, natSum_append, natSum_cons, natSum_nil]
  omega

/-- R453: a step on a byte keeps the invariant. -/
theorem frameInv_byteStep {s : State} (hinv : FrameInv s) (b : Byte) : FrameInv (byteStep b s) := by
  obtain ⟨hs, hrest⟩ | ⟨hs, hsum, hnil⟩ | ⟨hs, hlt, hsum⟩ | ⟨hs, -⟩ := hinv
  · by_cases hb : b = 19#8
    · subst hb
      rw [byteStep_header hs]
      exact .inr (.inl ⟨rfl, rfl, rfl⟩)
    · rw [byteStep_noHeader hs hb]
      exact .inl ⟨hs, hrest⟩
  · have hsum' : (s.sSum + b).toNat = (19 + b.toNat + natSum s.sPayload) % 256 := by
      rw [hsum, hnil, BitVec.toNat_add]; rfl
    rw [byteStep_readLength hs]
    by_cases hb : b = 0#8
    · subst hb
      exact .inr (.inr (.inr ⟨rfl, by simp [hnil], hsum'⟩))
    · have hpos : 0 < b.toNat := Nat.pos_of_ne_zero fun h => hb (BitVec.eq_of_toNat_eq h)
      exact .inr (.inr (.inl ⟨if_neg hb, by simpa [hnil] using hpos, hsum'⟩))
  · have hsum' := sumHolds_append hsum b
    rw [byteStep_accumPayload hs]
    by_cases hfull : s.sPayload.length + 1 = s.sLen.toNat
    · exact .inr (.inr (.inr ⟨if_pos hfull, by simpa using hfull, hsum'⟩))
    · exact .inr (.inr (.inl ⟨if_neg hfull, by simp; omega, hsum'⟩))
  · rw [byteStep_readChecksum hs]
    exact .inl ⟨rfl, rfl, rfl, rfl⟩

/-- R453: every transaction keeps the invariant. -/
theorem frameInv_exec {i : Instr} {s t : State} (hinv : FrameInv s) (h : exec i s = .next t) : FrameInv t := by
  obtain ⟨buf, hi⟩ | ⟨id, buf, hi⟩ | ⟨ev, -, hi⟩ | ⟨-, hi⟩ := exec_cases i s
  · exact runValidate_spec (hi ▸ h) ▸ hinv
  · exact runDecode_spec (hi ▸ h) ▸ hinv
  · obtain ⟨b, -, rfl⟩ | ⟨-, rfl⟩ | ⟨-, rfl⟩ := runStreamStep_spec (hi ▸ h)
    · exact frameInv_byteStep hinv b
    · exact .inl (unitReset_resetUnit s)
    · exact .inl (unitReset_resetUnit s)
  · exact runStreamReset_spec (hi ▸ h) ▸ .inl (unitReset_resetUnit s)

/-- Settles O12: it holds at reset, and `frameInv_exec` keeps it through a step that does not wait. -/
theorem everyStepKeepsTheFrameInvariant : Obligations.EveryStepKeepsTheFrameInvariant := by
  refine ⟨fun c => .inl (unitReset_fresh c), .inl (unitReset_fresh defaultConfig), fun s t hinv h => ?_⟩
  obtain ⟨-, rfl⟩ | ⟨word, rest, i, -, -, hexec⟩ := step_next h
  · exact hinv
  · exact frameInv_exec (s := { s with port := rest }) hinv hexec

/-- Settles O13: the first of the four states of R453. -/
theorem frameInvariantAtReset : Obligations.FrameInvariantAtReset := .inl (unitReset_fresh defaultConfig)

/-! ## The checksum step -/

/-- R453: in READ_CHECKSUM the sum is that of the header, the length and the payload. -/
theorem sumHolds_of_readChecksum {s : State} (hinv : FrameInv s) (hs : s.sState = .readChecksum) : SumHolds s := by
  obtain ⟨hseek, -⟩ | ⟨hlength, -⟩ | ⟨haccum, -⟩ | ⟨-, -, hsum⟩ := hinv
  · rw [hs] at hseek; cases hseek
  · rw [hs] at hlength; cases hlength
  · rw [hs] at haccum; cases haccum
  · exact hsum

/-- Settles O15: the invariant turns the running sum into the sum of the frame's bytes. -/
theorem checksumStepOutcome : Obligations.ChecksumStepOutcome := by
  intro s c hinv hs
  have hanswer := answersEvent_of_byteStep (s := s) (t := resetUnit s) rfl (byteStep_readChecksum hs c)
  rw [frameOutcome_of_sum c (sumHolds_of_readChecksum hinv hs)] at hanswer
  exact hanswer

/-- R306: a frame is the demultiplexed payload, and its sum passed. -/
theorem frameOutcome_eq_frame {c : Config} {sum : Byte} {p : List Byte} {checksum : Byte} {pairs : List Pair}
    (h : frameOutcome c sum p checksum = .frame pairs) :
    checksumPasses sum checksum = true ∧ demux c p = some pairs := by
  obtain ⟨-, hout⟩ | ⟨-, -, hout⟩ | ⟨hpass, pairs', hdemux, hout⟩ := frameOutcome_cases c sum p checksum
  · rw [h] at hout; cases hout
  · rw [h] at hout; cases hout
  · rw [h] at hout; cases hout; exact ⟨hpass, hdemux⟩

/-- R305: the event of a byte before the checksum is None, so a frame is the event of the checksum step. -/
theorem readChecksum_of_frame {s : State} {b : Byte} {pairs : List Pair}
    (h : (byteStep b s).outputs = s.outputs ++ [.streamed (.frame pairs)]) :
    s.sState = .readChecksum ∧ frameOutcome s.cfg s.sSum s.sPayload b = .frame pairs := by
  obtain hquiet | ⟨hs, hb⟩ := byteStep_quiet_or_checksum b s
  · cases streamed_append_inj (h.symm.trans hquiet)
  · rw [hb] at h
    exact ⟨hs, streamed_append_inj h⟩

/-- Settles O19: a frame is an event of the checksum step only, where the invariant gives the sum. -/
theorem emittedFrameSumsToZero : Obligations.EmittedFrameSumsToZero := by
  intro s t b pairs hinv h hout
  cases h
  obtain ⟨hs, hframe⟩ := readChecksum_of_frame hout
  obtain ⟨hpass, hdemux⟩ := frameOutcome_eq_frame hframe
  have hsum := sumHolds_of_readChecksum hinv hs
  rw [checksumPasses_iff, hsum] at hpass
  exact ⟨hs, by omega, hdemux⟩

end Sys2Proof.Machine
end

section
/-! Whole frames (44_stream_decoder.md R305 to R307, R315, R318): the event a frame ends in, and what a corrupted byte
does to it. -/

namespace Sys2Proof.Machine

/-! ## The event of a frame -/

/-- R306: the event of the frame with payload `p` and checksum byte `checksum`. -/
def frameEvent (c : Config) (p : List Byte) (checksum : Byte) : StreamEvent :=
  if checksum.toNat = goodChecksum p then
    match demux c p with
    | none => .framingDesync
    | some pairs => .frame pairs
  else .checksumFailure

/-- R306: any other checksum fails. -/
theorem frameEvent_of_ne {c : Config} {p : List Byte} {checksum : Byte} (h : checksum.toNat ≠ goodChecksum p) :
    frameEvent c p checksum = .checksumFailure := if_neg h

/-- R306: the right checksum fails for no payload. -/
theorem frameEvent_eq_checksumFailure_iff {c : Config} {p : List Byte} {checksum : Byte} :
    frameEvent c p checksum = .checksumFailure ↔ checksum.toNat ≠ goodChecksum p := by
  refine ⟨fun h heq => ?_, frameEvent_of_ne⟩
  rw [frameEvent, if_pos heq] at h
  cases hd : demux c p <;> rw [hd] at h <;> cases h

/-- R27: the length byte of a frame is the number of its payload bytes. -/
theorem byte_length_toNat {p : List Byte} (hp : p.length ≤ 255) : (byte p.length).toNat = p.length := by
  rw [byte_toNat]
  exact Nat.mod_eq_of_lt (by omega)

/-- R305, R307: the checksum step on the sum of the frame. -/
theorem frameOutcome_frameSum (c : Config) {p : List Byte} (hp : p.length ≤ 255) (checksum : Byte) :
    frameOutcome c (frameSum (byte p.length) p) p checksum = frameEvent c p checksum := by
  rw [frameOutcome_of_sum checksum (frameSum_toNat (byte p.length) p), byte_length_toNat hp]
  simp only [sum_zero_iff_goodChecksum]
  rfl

/-- R305: a whole frame fed to a unit in SEEK_HEADER gives None but for its last byte, and leaves the unit reset. -/
theorem runAll_frameBytes {s : State} (hs : s.sState = .seekHeader) {p : List Byte} (hp : p.length ≤ 255)
    (checksum : Byte) :
    runAll (feed (frameBytes p checksum)) s
      = .next (withEvents (quietThen (p.length + 2) (frameEvent s.cfg p checksum)) (resetUnit s)) := by
  rw [runAll_feed_frame hs hp, frameOutcome_frameSum s.cfg hp]

/-- Settles O20: `frameEvent` is the outcome the statement writes out. -/
theorem wholeFrameRun : Obligations.WholeFrameRun := fun _ _ checksum hs hp => runAll_frameBytes hs hp checksum

/-- The last result after a frame is its event. -/
theorem getLast?_withEvents_quietThen (n : Nat) (ev : StreamEvent) (s : State) :
    (withEvents (quietThen n ev) s).outputs.getLast? = some (.streamed ev) := by
  rw [withEvents_outputs, quietThen, List.map_append, List.map_singleton, ← List.append_assoc, List.getLast?_concat]

/-- Settles O21: `checksumByte` is the byte whose number is `goodChecksum`. -/
theorem exactlyOneChecksumPasses : Obligations.ExactlyOneChecksumPasses := by
  refine fun s p hs hp => ⟨_, rfl, fun c' => ?_⟩
  have hne : c' ≠ checksumByte (byte p.length) p ↔ c'.toNat ≠ goodChecksum p := by
    rw [← checksumByte_toNat hp, ne_eq, ne_eq, BitVec.toNat_inj]
  rw [runAll_frameBytes hs hp c', hne, ← frameEvent_eq_checksumFailure_iff (c := s.cfg)]
  constructor
  · rintro ⟨t, ht, hlast⟩
    obtain rfl := Host.Outcome.next.inj ht
    rw [getLast?_withEvents_quietThen] at hlast
    exact Output.streamed.inj (Option.some.inj hlast)
  · intro hfail
    exact ⟨_, rfl, by rw [getLast?_withEvents_quietThen, hfail]⟩

/-! ## A corrupted byte -/

/-- R318: the checksum of a payload is wrong for the payload with one byte changed. -/
theorem goodChecksum_set_ne {p : List Byte} {k : Nat} {b : Byte} (hk : k < p.length) (hb : p[k]? ≠ some b) :
    goodChecksum (p.set k b) ≠ goodChecksum p := by
  have hold : p[k]? = some p[k] := List.getElem?_eq_getElem hk
  have hne : p[k].toNat ≠ b.toNat := fun h => hb (hold.trans (congrArg some (BitVec.eq_of_toNat_eq h)))
  have hsum := natSum_set b hold
  have := p[k].isLt
  have := b.isLt
  rw [goodChecksum, goodChecksum, List.length_set]
  omega

/-- Settles O22: each of the corrupted frames has another checksum than the one it carries. -/
theorem oneCorruptByteGivesChecksumFailure : Obligations.OneCorruptByteGivesChecksumFailure := by
  intro s p c hs hp hgood
  have fails {q : List Byte} {c' : Byte} (hlen : q.length = p.length) (hbad : c'.toNat ≠ goodChecksum q) :
      runAll (feed (frameBytes q c')) s
        = .next (withEvents (quietThen (p.length + 2) .checksumFailure) (resetUnit s)) := by
    rw [runAll_frameBytes hs (hlen ▸ hp), frameEvent_of_ne hbad, hlen]
  refine ⟨fun k b hk hb => ?payload, fun c' hc' => ?checksum, fun h hh => ?header⟩
  case payload => exact fails List.length_set fun h => goodChecksum_set_ne hk hb (h.symm.trans hgood)
  case checksum => exact fails rfl fun h => hc' (BitVec.eq_of_toNat_eq (h.trans hgood.symm))
  case header => exact answersEvent_of_byteStep rfl (byteStep_noHeader hs hh)

/-- R302, R303: header and length of a frame that is not empty. -/
theorem runAll_feed_header_length {s : State} (hs : s.sState = .seekHeader) {n : Byte} (hn : n ≠ 0#8) :
    runAll (feed [19#8, n]) s
      = .next (withEvents [.none, .none]
          { s with sState := .accumPayload, sLen := n, sSum := 19#8 + n, sPayload := [] }) := by
  rw [runAll_feed_cons, byteStep_header hs, runAll_feed_cons, byteStep_readLength rfl, if_neg hn]
  simp [giveOutput, withEvents]

/-- R304: payload bytes give None as long as they are no more than N, and the rest of the state is that of before. -/
theorem runAll_feed_payload_quiet {s : State} (hs : s.sState = .accumPayload) {q : List Byte}
    (hq : s.sPayload.length + q.length ≤ s.sLen.toNat) :
    ∃ t, runAll (feed q) s = .next (withEvents (List.replicate q.length .none) t) ∧ resetUnit t = resetUnit s := by
  obtain hlt | heq := hq.lt_or_eq
  · exact ⟨_, runAll_feed_payload q s hs hlt, rfl⟩
  · by_cases hne : q = []
    · subst hne; exact ⟨s, by simp, rfl⟩
    · exact ⟨_, runAll_feed_full q s hs hne heq, rfl⟩

/-- R308: EndOfStream at the end of a run. -/
theorem runAll_append_endOfStream {is : List Instr} {s t : State} {evs : List StreamEvent}
    (h : runAll is s = .next (withEvents evs t)) :
    runAll (is ++ [.streamStep .endOfStream]) s = .next (withEvents (evs ++ [.endOfStream]) (resetUnit t)) := by
  rw [runAll_append h, ← withEvents_withEvents]
  rfl

/-- R319: the bytes of the example after its length byte. -/
def exampleTail : List Byte := [29#8, 2#8, 25#8, 13#8, 0#8, 163#8]

/-- R318: with a smaller length the example is a shorter frame with a wrong checksum, and bytes that are no header. -/
theorem short_example_frames : ∀ k < 5,
    19#8 :: byte k :: exampleTail = frameBytes (exampleTail.take k) (exampleTail.getD k 0#8) ++ exampleTail.drop (k + 1)
      ∧ (exampleTail.getD k 0#8).toNat ≠ goodChecksum (exampleTail.take k)
      ∧ ∀ b ∈ exampleTail.drop (k + 1), b ≠ 19#8 := by
  decide

/-- R318: a length below 5 ends the frame early, and what follows is discarded. -/
theorem runAll_example_short {k : Nat} (hk : k < 5) :
    runAll (feed (19#8 :: byte k :: exampleTail) ++ [.streamStep .endOfStream]) State.reset
      = .next (withEvents (quietThen (k + 2) .checksumFailure ++ quietThen (5 - k) .endOfStream) State.reset) := by
  obtain ⟨hbytes, hbad, hrest⟩ := short_example_frames k hk
  have htake : (exampleTail.take k).length = k := List.length_take_of_le (by simp [exampleTail]; omega)
  have hdrop : (exampleTail.drop (k + 1)).length = 5 - k := by simp [exampleTail]
  have hframe := runAll_frameBytes State.reset_sState (htake.le.trans (by omega)) (exampleTail.getD k 0#8)
  rw [frameEvent_of_ne hbad, htake] at hframe
  have htail := runAll_feed_noHeader (s := withEvents (quietThen (k + 2) .checksumFailure) (resetUnit State.reset)) rfl
    hrest
  rw [hdrop, withEvents_withEvents, ← runAll_append hframe, ← feed_append, ← hbytes] at htail
  rw [runAll_append_endOfStream htail, List.append_assoc]
  rfl

/-- R318: a length above 5 leaves the unit waiting for more payload or for the checksum. -/
theorem runAll_example_long {n : Byte} (hn : 5 < n.toNat) :
    runAll (feed (19#8 :: n :: exampleTail) ++ [.streamStep .endOfStream]) State.reset
      = .next (withEvents (quietThen 8 .endOfStream) State.reset) := by
  have hne : n ≠ 0#8 := fun h => by rw [h] at hn; simp at hn
  have hhead := runAll_feed_header_length State.reset_sState hne
  obtain ⟨t, ht, hreset⟩ := runAll_feed_payload_quiet (s := withEvents [.none, .none]
    { State.reset with sState := .accumPayload, sLen := n, sSum := 19#8 + n, sPayload := [] }) rfl (q := exampleTail) hn
  rw [← runAll_append hhead, ← feed_append] at ht
  exact (runAll_append_endOfStream ht).trans (by rw [hreset]; rfl)

/-- Settles O23: a length below 5 and a length above 5. -/
theorem corruptLengthOfTheExampleFrame : Obligations.CorruptLengthOfTheExampleFrame := by
  refine fun n => ⟨fun hn => ?short, runAll_example_long⟩
  case short =>
    have hbyte : byte n.toNat = n := BitVec.eq_of_toNat_eq (by simp; omega)
    have hrun := runAll_example_short hn
    rwa [hbyte] at hrun

/-! ## The empty frame -/

/-- R315: the frame with no payload byte passes with checksum 237 and gives no pair. -/
theorem frameEvent_nil (c : Config) (checksum : Byte) :
    frameEvent c [] checksum = if checksum = 237#8 then .frame [] else .checksumFailure := by
  have hgood : checksum.toNat = goodChecksum [] ↔ checksum = 237#8 := by
    rw [← BitVec.toNat_inj]; rfl
  simp only [frameEvent, hgood, demux_nil]

/-- Settles O25: the body and the whole of the frame of the empty payload. -/
theorem emptyFrame : Obligations.EmptyFrame := by
  refine fun s c hs => ⟨runAll_feed_body s [] hs (by simp), ?_⟩
  have hrun := runAll_frameBytes hs (p := []) (by simp) c
  rw [frameEvent_nil] at hrun
  exact hrun

end Sys2Proof.Machine
end

section
/-! The demultiplexer (44_stream_decoder.md R309, R311): the records that tile a payload, the causes of a desync, and
group IDs under either policy. -/

namespace Sys2Proof.Machine

/-! ## Records -/

/-- R309: a record is accepted when its ID may head one and its data bytes are as many as its total width. -/
theorem recordPairs_eq_some {c : Config} {id : Byte} {d : List Byte} {pairs : List Pair} :
    recordPairs c (id, d) = some pairs
      ↔ ∃ members, recordMembers c id = some members ∧ d.length = totalWidth c members
        ∧ pairs = fieldPairs c members d := by
  unfold recordPairs
  cases hm : recordMembers c id with
  | none => simp
  | some members => by_cases hd : d.length = totalWidth c members <;> simp [hd, eq_comm]

/-- R309: the demultiplexer takes an accepted record from the head of the payload. -/
theorem demux_of_recordPairs {c : Config} {id : Byte} {d : List Byte} {pairs : List Pair}
    (h : recordPairs c (id, d) = some pairs) (rest : List Byte) :
    demux c (id :: (d ++ rest)) = (demux c rest).map (pairs ++ ·) := by
  obtain ⟨members, hm, hd, rfl⟩ := recordPairs_eq_some.1 h
  exact demux_record hm hd rest

/-- R309: a payload that demultiplexes begins with an accepted record, and the rest demultiplexes. -/
theorem record_of_demux_cons {c : Config} {id : Byte} {bs : List Byte} {out : List Pair}
    (h : demux c (id :: bs) = some out) :
    ∃ d rest pairs more, bs = d ++ rest ∧ recordPairs c (id, d) = some pairs ∧ demux c rest = some more
      ∧ out = pairs ++ more := by
  rw [demux_cons] at h
  cases hm : recordMembers c id with
  | none => rw [hm] at h; cases h
  | some members =>
    simp only [hm] at h
    split at h
    · cases h
    · next hlen =>
      obtain ⟨more, hmore, rfl⟩ := Option.map_eq_some_iff.1 h
      have htake : (bs.take (totalWidth c members)).length = totalWidth c members := by
        rw [List.length_take]; omega
      exact ⟨_, _, _, more, (List.take_append_drop (totalWidth c members) bs).symm,
        recordPairs_eq_some.2 ⟨members, hm, htake, rfl⟩, hmore, rfl⟩

/-- R309: what demultiplexes is tiled by records, by induction on the number of bytes left. -/
theorem tiling_of_demux {c : Config} {p : List Byte} {out : List Pair} (h : demux c p = some out) :
    ∃ records : List (Record × List Pair), p = records.flatMap (fun r => r.1.1 :: r.1.2)
      ∧ out = records.flatMap (fun r => r.2) ∧ ∀ r ∈ records, recordPairs c r.1 = some r.2 := by
  induction hn : p.length using Nat.strongRecOn generalizing p out with
  | ind n ih =>
    cases p with
    | nil => cases h; exact ⟨[], rfl, rfl, by simp⟩
    | cons id bs =>
      obtain ⟨d, rest, pairs, more, rfl, hrec, hmore, rfl⟩ := record_of_demux_cons h
      have hlt : rest.length < n := by rw [← hn, List.length_cons, List.length_append]; omega
      obtain ⟨records, rfl, rfl, hall⟩ := ih rest.length hlt hmore rfl
      exact ⟨((id, d), pairs) :: records, by simp, by simp, List.forall_mem_cons.2 ⟨hrec, hall⟩⟩

/-- R309: what records tile demultiplexes, by induction on the records. -/
theorem demux_of_tiling {c : Config} {records : List (Record × List Pair)}
    (h : ∀ r ∈ records, recordPairs c r.1 = some r.2) :
    demux c (records.flatMap fun r => r.1.1 :: r.1.2) = some (records.flatMap fun r => r.2) := by
  induction records with
  | nil => exact demux_nil c
  | cons r records ih =>
    obtain ⟨hr, hrest⟩ := List.forall_mem_cons.1 h
    rw [List.flatMap_cons, List.cons_append, demux_of_recordPairs hr, ih hrest, List.flatMap_cons]
    rfl

/-- Settles O26: `tiling_of_demux` and `demux_of_tiling`. -/
theorem demuxAcceptsExactlyTheTilings : Obligations.DemuxAcceptsExactlyTheTilings := by
  refine fun c p out => ⟨tiling_of_demux, ?tiling⟩
  case tiling =>
    rintro ⟨records, rfl, rfl, hall⟩
    exact demux_of_tiling hall

/-- Settles O27: after the accepted bytes the demultiplexer goes on with the record that fails. -/
theorem demuxDesyncs : Obligations.DemuxDesyncs := by
  intro c before pairs id rest hbefore
  have after (h : demux c (id :: rest) = none) : demux c (before ++ id :: rest) = none := by
    rw [demux_append hbefore, h]; rfl
  exact ⟨fun hunknown => after (demux_no_record (recordMembers_unknown hunknown) rest),
    fun _ hgroup hpolicy => after (demux_no_record (recordMembers_group_leafOnly hgroup hpolicy) rest),
    fun _ hspec hshort => after (demux_overrun hspec hshort)⟩

/-! ## Groups -/

/-- R311: the record of one group under EXPAND_GROUPS. -/
theorem demux_group {c : Config} {id : Byte} {members d : List Byte} (h : packetSpec c id = some (.group members))
    (hp : c.streamGroupPolicy = .expandGroups) (hd : d.length = totalWidth c members) :
    demux c (id :: d) = some (memberPairs c d 0 members) := by
  have hdemux := demux_record (recordMembers_group_expand h hp) hd []
  rwa [List.append_nil, demux_nil, Option.map_some, List.append_nil] at hdemux

/-- A group of the default packets. -/
theorem packetSpec_default_group {c : Config} (h : DefaultPackets c) {id : Byte} {first last : Nat}
    (he : defaultPktCatalog.find? (fun e => e.id == id) = some (groupEntry id first last)) :
    packetSpec c id = some (.group (idRange first last)) :=
  packetSpec_default h he

/-- R311: the default configuration with a group policy. -/
def withPolicy (policy : StreamGroupPolicy) : Config := { defaultConfig with streamGroupPolicy := policy }

/-- R256: group 2 of the default packets. -/
theorem packetSpec_2_withPolicy (policy : StreamGroupPolicy) :
    packetSpec (withPolicy policy) 2#8 = some (.group [17#8, 18#8, 19#8, 20#8]) :=
  packetSpec_default_group (c := withPolicy policy) rfl (first := 17) (last := 20) rfl

/-- R311: the data bytes of group 2 in the example frame. -/
def exampleGroupData : List Byte := [0#8, 1#8, 255#8, 254#8, 0#8, 90#8]

/-- R311: the example frame of group 2. -/
theorem frameEvent_exampleGroup (policy : StreamGroupPolicy) :
    frameEvent (withPolicy policy) (2#8 :: exampleGroupData) 140#8
      = match policy with
        | .leafOnly => .framingDesync
        | .expandGroups => .frame [(17#8, 0), (18#8, 1), (19#8, -2), (20#8, 90)] := by
  have hgood : (140#8 : Byte).toNat = goodChecksum (2#8 :: exampleGroupData) := by decide
  have hspec := packetSpec_2_withPolicy policy
  cases policy with
  | leafOnly =>
    simp only [frameEvent, if_pos hgood, demux_no_record (recordMembers_group_leafOnly hspec rfl) exampleGroupData]
  | expandGroups =>
    simp only [frameEvent, if_pos hgood, demux_group (d := exampleGroupData) hspec rfl rfl]
    rfl

/-- Settles O29: `recordMembers` decides by the policy whether the ID heads a record. -/
theorem groupIdsInStreams : Obligations.GroupIdsInStreams := by
  refine ⟨fun s id members d hspec => ⟨fun hpolicy => ?leafOnly, fun hpolicy hd => ?expandGroups⟩, fun policy => ?frame⟩
  case leafOnly => exact demux_no_record (recordMembers_group_leafOnly hspec hpolicy) d
  case expandGroups =>
    exact ⟨memberPairs s.cfg d 0 members, memberPairs_map_fst .., demux_group hspec hpolicy hd,
      answersDecode_of_decodeResponse (decodeResponse_ok hspec hd)⟩
  case frame =>
    have hrun := runAll_frameBytes (s := State.fresh (withPolicy policy)) rfl (p := 2#8 :: exampleGroupData) (by decide)
      140#8
    rw [State.fresh_cfg, frameEvent_exampleGroup] at hrun
    exact hrun

end Sys2Proof.Machine
end

section
/-! Admission (70_reset_and_hazards.md R455): the clauses of R140, R200 and R265 are what the check asks for, and what
they force of the leaf widths. -/

namespace Sys2Proof.Machine

/-! ## The command catalog, from its clauses -/

/-- R140(e): fields with no common byte stand one after the other. -/
theorem fieldsApart_of_not_covers {f g : Field} (hf : 0 < f.byteWidth) (hg : 0 < g.byteWidth)
    (h : ∀ k, ¬(Covers f k ∧ Covers g k)) : fieldsApart f g = true := by
  have hlast := h (max f.byteOffset g.byteOffset)
  simp only [Covers] at hlast
  simp only [fieldsApart, Bool.or_eq_true, decide_eq_true_eq]
  omega

/-- R140(e): the check compares each field with those after it. -/
theorem fieldsDisjoint_of_apart {fs : List Field}
    (h : ∀ (i j : Nat) (f g : Field), i ≠ j → fs[i]? = some f → fs[j]? = some g → fieldsApart f g = true) :
    fieldsDisjoint fs = true := by
  induction fs with
  | nil => rfl
  | cons f fs ih =>
    simp only [fieldsDisjoint, Bool.and_eq_true, List.all_eq_true]
    constructor
    · intro g hg
      obtain ⟨j, hj⟩ := List.getElem?_of_mem hg
      exact h 0 (j + 1) f g (by omega) rfl hj
    · exact ih fun i j f g hij hi hj => h (i + 1) (j + 1) f g (by omega) hi hj

/-- R140(b), (c): a field that ends at or before byte `last`. -/
theorem fieldWf_of_clauses {len : LengthRule} {f : Field} (hoffset : 1 ≤ f.byteOffset)
    (hend : f.byteOffset + f.byteWidth - 1 ≤ lastFieldByte len)
    (hrange : (f.byteWidth = 1 ∨ f.byteWidth = 2) ∧ f.min ≤ f.max) : fieldWf len f = true := by
  simp only [fieldWf, Bool.and_eq_true, Bool.or_eq_true, beq_iff_eq, decide_eq_true_eq]
  exact ⟨⟨⟨hoffset, by omega⟩, hrange.1⟩, hrange.2⟩

/-- R140(b) to (d): the placing of the fields and their ranges are what the check asks for. -/
theorem fieldsWf_of_placed {len : LengthRule} {fs : List Field} (hplaced : FieldsPlaced len fs)
    (hranges : ∀ f ∈ fs, (f.byteWidth = 1 ∨ f.byteWidth = 2) ∧ f.min ≤ f.max) :
    lengthWf len = true ∧ fs.all (fieldWf len) = true := by
  cases len with
  | fixed k =>
    refine ⟨rfl, List.all_eq_true.2 fun f hf => ?_⟩
    obtain ⟨hoffset, hend⟩ := hplaced f hf
    exact fieldWf_of_clauses hoffset hend (hranges f hf)
  | prefixed off base per =>
    obtain ⟨⟨hoff, hbase⟩, hfields⟩ := hplaced
    refine ⟨by simp only [lengthWf, hoff, hbase, decide_true, Bool.and_true], List.all_eq_true.2 fun f hf => ?_⟩
    obtain ⟨hoffset, hend⟩ := hfields f hf
    exact fieldWf_of_clauses hoffset hend (hranges f hf)

/-- R140: a catalog that meets every clause passes the check. -/
theorem cmdCatalogWf_of_clauses {c : Config} (h : CommandsWellFormed c) : cmdCatalogWf c = true := by
  refine cmdCatalogWf_iff.2 ⟨fun op hop => ?one, fun e he => ⟨h.known e he, ?spec⟩⟩
  case one =>
    obtain ⟨e, hfilter⟩ := h.oneEntry op hop
    rw [entriesOf, hfilter, List.length_singleton]
  case spec =>
    have hranges := h.ranges e he
    have hwidth {i : Nat} {f : Field} (hi : (specUnder c.domainProfile e).fields[i]? = some f) : 0 < f.byteWidth := by
      obtain ⟨hw, -⟩ := hranges f (List.mem_of_getElem? hi)
      omega
    have hdisjoint : fieldsDisjoint (specUnder c.domainProfile e).fields = true :=
      fieldsDisjoint_of_apart fun i j f g hij hi hj =>
        fieldsApart_of_not_covers (hwidth hi) (hwidth hj) (h.apart e he i j f g hij hi hj)
    obtain ⟨hlength, hfields⟩ := fieldsWf_of_placed (h.placed e he) hranges
    rw [commandSpecWf, specUnder_length, hlength, hfields, hdisjoint]
    rfl

/-! ## The packet catalog, from its clauses -/

/-- R79: the IDs of RLIB's groups, as the three ranges they fill. -/
theorem rlibGroups_ids : rlibGroups.map (·.1) = idRange 0 6 ++ (idRange 100 101 ++ idRange 106 107) := by decide

/-- R79, R266: an ID is a leaf's, a group's or one of the unknown ones. -/
theorem unknown_of_not_packetId {id : Byte} (hleaf : id ∉ idRange 7 58) (hgroup : id ∉ rlibGroups.map (·.1)) :
    (59 ≤ id.toNat ∧ id.toNat ≤ 99) ∨ (102 ≤ id.toNat ∧ id.toNat ≤ 105) ∨ 108 ≤ id.toNat := by
  rw [rlibGroups_ids] at hgroup
  simp only [List.mem_append, mem_idRange_iff_le (by decide : 58 ≤ 255), mem_idRange_iff_le (by decide : 6 ≤ 255),
    mem_idRange_iff_le (by decide : 101 ≤ 255), mem_idRange_iff_le (by decide : 107 ≤ 255)] at hleaf hgroup
  omega

/-- R200(d): an entry of a catalog that knows no other IDs is a leaf's or a group's. -/
theorem hasPacketId_of_others {c : Config} (h : PacketsWellFormed c) {e : PacketEntry} (he : e ∈ c.pktCatalog) :
    hasPacketId e = true := by
  have hknown : packetSpec c e.id ≠ none := fun hnone =>
    packetSpec_eq_none_iff.1 hnone (List.mem_map_of_mem he)
  by_contra hid
  simp only [hasPacketId, Bool.or_eq_true, List.contains_iff_mem, not_or] at hid
  exact hknown (h.others e.id (unknown_of_not_packetId hid.1 hid.2))

/-- R200(a): an ID from 7 to 58 is a leaf of width 1 or 2. -/
theorem isLeaf12_of_leaves {c : Config} (h : PacketsWellFormed c) {id : Byte} (hid : id ∈ idRange 7 58) :
    isLeaf12 c id = true := by
  obtain ⟨hfirst, hlast⟩ := (mem_idRange_iff_le (by decide)).1 hid
  obtain ⟨name, w, sg, hspec, hw⟩ := h.leaves id hfirst hlast
  simpa only [isLeaf12, hspec, Bool.or_eq_true, beq_iff_eq] using hw

/-- R200, R265: a catalog that meets every clause passes the check. -/
theorem pktCatalogWf_of_clauses {c : Config} (h : PacketsWellFormed c) : pktCatalogWf c = true := by
  refine pktCatalogWf_iff.2 ⟨fun id => isLeaf12_of_leaves h, fun g hg => groupWf_iff.2 (h.groups g hg),
    fun e he => ⟨hasPacketId_of_others h he, ?one⟩, exampleWidthWf_iff.2 h.packet29⟩
  case one => rw [onlyEntry, h.oneEntry e he, List.length_singleton, beq_self_eq_true]

/-- R455: admission is the clauses of R140, R200 and R265. -/
theorem admitted_iff_clauses {c : Config} : admitted c = true ↔ CommandsWellFormed c ∧ PacketsWellFormed c :=
  ⟨fun h => ⟨commandsWellFormed_of_admitted h, packetsWellFormed_of_admitted h⟩,
    fun ⟨hcmd, hpkt⟩ => admitted_iff.2 ⟨cmdCatalogWf_of_clauses hcmd, pktCatalogWf_of_clauses hpkt⟩⟩

/-- R8, R455: the default catalogs are admitted under either profile and either encoder sign; no check reads the group
policy. -/
theorem admitted_defaultCatalogs (profile : DomainProfile) (encoders : Bool) (policy : StreamGroupPolicy) :
    admitted { defaultConfig with domainProfile := profile, signedEncoderCounts := encoders,
                                  streamGroupPolicy := policy } = true := by
  have hpolicy : admitted { defaultConfig with domainProfile := profile, signedEncoderCounts := encoders,
                                               streamGroupPolicy := policy }
      = admitted { defaultConfig with domainProfile := profile, signedEncoderCounts := encoders } := by
    cases policy <;> rfl
  rw [hpolicy]
  cases profile <;> cases encoders <;> decide +kernel

/-- R455: an admitted configuration is instantiated. -/
theorem instantiate_of_admitted {c : Config} (h : admitted c = true) : State.instantiate c = .next (State.fresh c) :=
  if_pos h

/-- R455: no other configuration is. -/
theorem instantiate_of_not_admitted {c : Config} (h : ¬ admitted c = true) :
    State.instantiate c = .refused .catalogNotAdmitted :=
  if_neg h

/-- R8, R455: the default configuration is admitted. -/
theorem admitted_defaultConfig : admitted defaultConfig = true := admitted_defaultCatalogs .source true .leafOnly

/-- Settles O6: `State.fresh` and `resetUnit` write the same four values. -/
theorem resetStateIsR33 : Obligations.ResetStateIsR33 :=
  ⟨fun c hc => ⟨State.fresh c, instantiate_of_admitted hc, unitReset_fresh c, rfl⟩,
    fun s => ⟨resetUnit s, exec_streamReset s, unitReset_resetUnit s, rfl⟩,
    instantiate_of_admitted admitted_defaultConfig, unitReset_fresh defaultConfig, rfl⟩

/-- Settles O8: `admitted_iff_clauses` in both directions, and the default catalogs. -/
theorem catalogAdmission : Obligations.CatalogAdmission :=
  ⟨fun _ hcmd hpkt => instantiate_of_admitted (admitted_iff_clauses.2 ⟨hcmd, hpkt⟩),
    fun _ hbroken => instantiate_of_not_admitted fun h => hbroken (admitted_iff_clauses.1 h),
    fun profile encoders policy => ⟨_, instantiate_of_admitted (admitted_defaultCatalogs profile encoders policy)⟩⟩

/-! ## The widths that the group totals force -/

/-- Settles O9: the rows of the statement are RLIB's groups. -/
theorem groupTotals : Obligations.GroupTotals := fun _ ha _ hg => groupWf_iff.1 (group_of_admitted ha hg)

/-- R25, R265: with widths 1 and 2 only, the total is one byte a member and one more for each of width 2. -/
theorem totalWidth_eq_length_add {c : Config} {ms : List Byte} (h : ∀ m ∈ ms, leafWidth c m = 1 ∨ leafWidth c m = 2) :
    totalWidth c ms = ms.length + (ms.filter fun m => leafWidth c m == 2).length := by
  induction ms with
  | nil => rfl
  | cons m ms ih =>
    obtain ⟨hm, hms⟩ := List.forall_mem_cons.1 h
    rw [totalWidth_cons, ih hms, List.length_cons]
    obtain hw | hw := hm <;> simp [hw] <;> omega

/-- R200(a): the widths of the leaves of an admitted catalog. -/
theorem leafWidth_of_admitted {c : Config} (ha : admitted c = true) {id : Byte} (h : id ∈ idRange 7 58) :
    leafWidth c id = 1 ∨ leafWidth c id = 2 := by
  obtain ⟨name, w, sg, hspec, hw⟩ := leaf_of_admitted ha h
  rwa [leafWidth_of_leaf hspec]

/-- R265: the total of a group of RLIB's gives the number of its members of width 2. -/
theorem length_add_twoByteCount {c : Config} (ha : admitted c = true) {g : Byte × Nat × Nat × Nat}
    (hg : g ∈ rlibGroups) :
    (idRange g.2.1 g.2.2.1).length + twoByteCount c g.2.1 g.2.2.1 = g.2.2.2 := by
  obtain ⟨-, htotal⟩ := groupWf_iff.1 (group_of_admitted ha hg)
  rw [← htotal, totalWidth_eq_length_add fun m hm => leafWidth_of_admitted ha (groups_members_are_leaves hg hm)]
  rfl

/-- How many IDs a range holds. -/
@[simp] theorem length_idRange (first last : Nat) : (idRange first last).length = last + 1 - first := by
  simp [idRange]

/-- R265: the number of members of width 2, solved for. -/
theorem twoByteCount_of_group {c : Config} (ha : admitted c = true) (g : Byte × Nat × Nat × Nat) (hg : g ∈ rlibGroups) :
    twoByteCount c g.2.1 g.2.2.1 = g.2.2.2 - (g.2.2.1 + 1 - g.2.1) := by
  have h := length_add_twoByteCount ha hg
  rw [length_idRange] at h
  omega

/-- R265: a range with no member of width 2. -/
theorem leafWidth_ne_two {c : Config} {first last : Nat} (h : twoByteCount c first last = 0) {m : Byte}
    (hm : m ∈ idRange first last) : leafWidth c m ≠ 2 := by
  have hnil := List.filter_eq_nil_iff.1 (List.length_eq_zero_iff.1 h) m hm
  simpa using hnil

/-- R265: a range with as many members of width 2 as members. -/
theorem leafWidth_eq_two {c : Config} {first last : Nat} (h : twoByteCount c first last = last + 1 - first) {m : Byte}
    (hm : m ∈ idRange first last) : leafWidth c m = 2 := by
  rw [← length_idRange] at h
  have hall := List.length_filter_eq_length_iff.1 h m hm
  simpa using hall

/-- R265: packets 7 to 16 are one byte wide, by the total of group 1. -/
theorem leafWidth_eq_one_of_group1 {c : Config} (ha : admitted c = true) {m : Byte} (hm : m ∈ idRange 7 16) :
    leafWidth c m = 1 :=
  (leafWidth_of_admitted ha (idRange_subset (by decide) (by decide) hm)).resolve_right
    (leafWidth_ne_two (twoByteCount_of_group ha (1#8, 7, 16, 10) (by decide)) hm)

/-- Settles O10: each count is the total of a group less the number of its members. -/
theorem forcedLeafWidths : Obligations.ForcedLeafWidths := by
  intro c ha
  have count := twoByteCount_of_group ha
  refine ⟨fun id h1 h2 => leafWidth_eq_one_of_group1 ha (mem_idRange_of_le h1 h2), fun id h1 h2 => ?words, ?packet29,
    leafWidth_eq_one_of_group1 ha (by decide), count (2#8, 17, 20, 6) (by decide), count (3#8, 21, 26, 10) (by decide),
    count (4#8, 27, 34, 14) (by decide), count (5#8, 35, 42, 12) (by decide), count (107#8, 54, 58, 9) (by decide),
    count (101#8, 43, 58, 28) (by decide)⟩
  case words =>
    exact leafWidth_eq_two (count (106#8, 46, 51, 12) (by decide)) (mem_idRange_of_le h1 h2)
  case packet29 =>
    obtain ⟨name, sg, hspec⟩ := (packetsWellFormed_of_admitted ha).packet29
    exact leafWidth_of_leaf hspec

end Sys2Proof.Machine
end

section
/-! The records of DECODE (43_group_decoder.md R281, R287; 42_packet_catalog.md R202 to R264): values and bytes there
and back, concatenated responses, and the leaves and groups of the default packets. -/

namespace Sys2Proof.Machine

/-! ## The member at the head of a response -/

/-- R282: the first member's pair is of the first bytes, and the other members stand in the rest. -/
theorem memberPairs_head {c : Config} {m : Byte} {d : List Byte} (hd : d.length = leafWidth c m) (rest ms : List Byte) :
    memberPairs c (d ++ rest) 0 (m :: ms)
      = (m, leafValue (leafWidth c m) (leafSigned c m) d) :: memberPairs c rest 0 ms := by
  have hrest := memberPairs_drop c d rest 0 ms
  rw [Nat.add_zero, hd] at hrest
  rw [memberPairs_cons, bytesAt, List.drop_zero, List.take_append_of_le_length hd.ge, List.take_of_length_le hd.le,
    Nat.zero_add, hrest]

/-- R25: a response of the total width begins with the bytes of its first member. -/
theorem split_head {c : Config} {m : Byte} {ms buf : List Byte} (h : buf.length = totalWidth c (m :: ms)) :
    ∃ d rest, buf = d ++ rest ∧ d.length = leafWidth c m ∧ rest.length = totalWidth c ms := by
  rw [totalWidth_cons] at h
  exact ⟨buf.take (leafWidth c m), buf.drop (leafWidth c m), (List.take_append_drop ..).symm,
    List.length_take_of_le (by omega), by rw [List.length_drop]; omega⟩

/-- R287: the encoding of the first member's value, then that of the rest. -/
theorem encodeRecord_cons (c : Config) (m : Byte) (ms : List Byte) (v : Int) (vs : List Int) :
    encodeRecord c (m :: ms) (v :: vs) = encodeValue (leafWidth c m) (leafSigned c m) v ++ encodeRecord c ms vs := rfl

/-! ## Round trips (R287) -/

/-- R287: an encoded record is as long as the members' total width, and its pairs are the values encoded. -/
theorem memberPairs_encodeRecord {c : Config} {ms : List Byte} {vs : List Int} (hlen : vs.length = ms.length)
    (hw : ∀ m ∈ ms, leafWidth c m = 1 ∨ leafWidth c m = 2)
    (hrange : ∀ p ∈ ms.zip vs, inRange (leafWidth c p.1) (leafSigned c p.1) p.2 = true) :
    (encodeRecord c ms vs).length = totalWidth c ms ∧ memberPairs c (encodeRecord c ms vs) 0 ms = ms.zip vs := by
  induction ms generalizing vs with
  | nil => exact ⟨rfl, rfl⟩
  | cons m ms ih =>
    cases vs with
    | nil => cases hlen
    | cons v vs =>
      obtain ⟨hm, hms⟩ := List.forall_mem_cons.1 hw
      rw [List.zip_cons_cons] at hrange
      obtain ⟨hv, hvs⟩ := List.forall_mem_cons.1 hrange
      obtain ⟨hlength, hpairs⟩ := ih (Nat.succ.inj hlen) hms hvs
      have hhead := encodeValue_length hm (leafSigned c m) v
      constructor
      · rw [encodeRecord_cons, List.length_append, hhead, hlength, totalWidth_cons]
      · rw [encodeRecord_cons, memberPairs_head hhead, leafValue_encodeValue hm hv, hpairs, List.zip_cons_cons]

/-- R287: the pairs of a response of the total width are in their ranges, and their values encode to it. -/
theorem encodeRecord_memberPairs {c : Config} {ms buf : List Byte} (hlen : buf.length = totalWidth c ms)
    (hw : ∀ m ∈ ms, leafWidth c m = 1 ∨ leafWidth c m = 2) :
    encodeRecord c ms ((memberPairs c buf 0 ms).map (·.2)) = buf
      ∧ ∀ p ∈ memberPairs c buf 0 ms, inRange (leafWidth c p.1) (leafSigned c p.1) p.2 = true := by
  induction ms generalizing buf with
  | nil => exact ⟨(List.length_eq_zero_iff.1 hlen).symm, by simp⟩
  | cons m ms ih =>
    obtain ⟨hm, hms⟩ := List.forall_mem_cons.1 hw
    obtain ⟨d, rest, rfl, hd, hrest⟩ := split_head hlen
    obtain ⟨hencode, hrange⟩ := ih hrest hms
    rw [memberPairs_head hd]
    constructor
    · rw [List.map_cons, encodeRecord_cons, encodeValue_leafValue hm (leafSigned c m) hd, hencode]
    · exact List.forall_mem_cons.2 ⟨inRange_leafValue hm (leafSigned c m) hd, hrange⟩

/-- Settles O52: `memberPairs_encodeRecord` on the members of an admitted catalog. -/
theorem decodeOfEncodedRecord : Obligations.DecodeOfEncodedRecord := by
  intro s id spec values ha hspec hlen hrange
  obtain ⟨hlength, hpairs⟩ := memberPairs_encodeRecord hlen (fun _ => member_of_admitted ha hspec) hrange
  exact answersDecode_of_decodeResponse ((decodeResponse_ok hspec hlength).trans (congrArg DecodeResult.record hpairs))

/-- Settles O53: `encodeRecord_memberPairs` on the members of an admitted catalog. -/
theorem encodeOfDecodedRecord : Obligations.EncodeOfDecodedRecord := by
  intro s id spec buf ha hspec hlen
  exact ⟨_, answersDecode_of_decodeResponse (decodeResponse_ok hspec hlen),
    encodeRecord_memberPairs hlen fun _ => member_of_admitted ha hspec⟩

/-! ## Concatenated responses (R254, R260, R261) -/

/-- R281: the response `buf` of the packets `ms` decodes to `pairs`. -/
def Decodes (c : Config) (ms buf : List Byte) (pairs : List Pair) : Prop :=
  buf.length = totalWidth c ms ∧ pairs = memberPairs c buf 0 ms

/-- R281: DECODE answers a record exactly when the response decodes to it. -/
theorem decodeResponse_eq_record_iff {c : Config} {id : Byte} {spec : PacketSpec} (h : packetSpec c id = some spec)
    {buf : List Byte} {pairs : List Pair} :
    decodeResponse c id buf = .record pairs ↔ Decodes c (membersOf id spec) buf pairs := by
  by_cases hl : buf.length = totalWidth c (membersOf id spec)
  · rw [decodeResponse_ok h hl, DecodeResult.record.injEq]
    exact ⟨fun e => ⟨hl, e.symm⟩, fun hd => hd.2.symm⟩
  · rw [decodeResponse_wrongLength h hl]
    exact ⟨nofun, fun hd => absurd hd.1 hl⟩

/-- R282: one response after another decodes to one record after the other. -/
theorem Decodes.append {c : Config} {as bs a b : List Byte} {x y : List Pair} (ha : Decodes c as a x)
    (hb : Decodes c bs b y) : Decodes c (as ++ bs) (a ++ b) (x ++ y) := by
  obtain ⟨hla, rfl⟩ := ha
  obtain ⟨hlb, rfl⟩ := hb
  have hfirst : memberPairs c (a ++ b) 0 as = memberPairs c a 0 as := memberPairs_take c a b 0 as (by omega)
  have hsecond : memberPairs c (a ++ b) (totalWidth c as) bs = memberPairs c b 0 bs := by
    rw [← hla]; exact memberPairs_drop c a b 0 bs
  exact ⟨by rw [List.length_append, totalWidth_append, hla, hlb],
    by rw [memberPairs_append, Nat.zero_add, hfirst, hsecond]⟩

/-- DECODE's answer is its result. -/
theorem answersDecode_decode_iff {s : State} {id : Byte} {buf : List Byte} {r : DecodeResult} :
    answersDecode (.decode id buf) s r ↔ decodeResponse s.cfg id buf = r := by
  refine ⟨fun h => ?_, answersDecode_of_decodeResponse⟩
  have houts := congrArg State.outputs (Host.Outcome.next.inj h)
  simpa [giveOutput] using houts

/-- R281, R286: DECODE of one of RLIB's groups answers a record exactly when its members decode to it. -/
theorem answersDecode_group_iff {s : State} (ha : admitted s.cfg = true) (g : Byte × Nat × Nat × Nat)
    (hg : g ∈ rlibGroups) {buf : List Byte} {pairs : List Pair} :
    answersDecode (.decode g.1 buf) s (.record pairs) ↔ Decodes s.cfg (idRange g.2.1 g.2.2.1) buf pairs :=
  answersDecode_decode_iff.trans (decodeResponse_eq_record_iff (groupWf_iff.1 (group_of_admitted ha hg)).1)

/-- Settles O59: the members of the larger group are those of its parts, one part after the other. -/
theorem groupsAreConcatenations : Obligations.GroupsAreConcatenations := by
  intro s a b d x y w ha
  have group := @answersDecode_group_iff s ha
  have group0 : idRange 7 26 = idRange 7 16 ++ idRange 17 20 ++ idRange 21 26 := by decide
  have group6 : idRange 7 42 = idRange 7 26 ++ idRange 27 34 ++ idRange 35 42 := by decide
  have group100 : idRange 7 58 = idRange 7 42 ++ idRange 43 58 := by decide
  refine ⟨fun h1 h2 h3 => ?group0, fun h0 h4 h5 => ?group6, fun h6 h101 => ?group100⟩
  case group0 =>
    replace h1 := (group (1#8, 7, 16, 10) (by decide)).1 h1
    replace h2 := (group (2#8, 17, 20, 6) (by decide)).1 h2
    replace h3 := (group (3#8, 21, 26, 10) (by decide)).1 h3
    exact (group (0#8, 7, 26, 26) (by decide)).2 (group0 ▸ (h1.append h2).append h3)
  case group6 =>
    replace h0 := (group (0#8, 7, 26, 26) (by decide)).1 h0
    replace h4 := (group (4#8, 27, 34, 14) (by decide)).1 h4
    replace h5 := (group (5#8, 35, 42, 12) (by decide)).1 h5
    exact (group (6#8, 7, 42, 52) (by decide)).2 (group6 ▸ (h0.append h4).append h5)
  case group100 =>
    replace h6 := (group (6#8, 7, 42, 52) (by decide)).1 h6
    replace h101 := (group (101#8, 43, 58, 28) (by decide)).1 h101
    exact (group (100#8, 7, 58, 80) (by decide)).2 (group100 ▸ h6.append h101)

/-! ## The values of one and two bytes (R13) -/

/-- R13: an unsigned byte. -/
theorem leafValue_u8 (b : Byte) : leafValue 1 false [b] = u8Of b := by
  rw [leafValue, be_one]; rfl

/-- R13: a signed byte. -/
theorem leafValue_s8 (b : Byte) : leafValue 1 true [b] = s8Of b := by
  rw [leafValue, be_one, patternValue_signed_one, s8Of]

/-- R13: an unsigned word, high byte first. -/
theorem leafValue_u16 (hi lo : Byte) : leafValue 2 false [hi, lo] = u16Of hi lo := by
  rw [leafValue, be_two]; rfl

/-- R13: the sign of two bytes is that of the high byte. -/
theorem leafValue_s16 (hi lo : Byte) : leafValue 2 true [hi, lo] = s16Of hi lo := by
  have hlo := lo.isLt
  have hsign : hi.toNat * 256 + lo.toNat < 32768 ↔ hi.toNat < 128 := by omega
  rw [leafValue, be_two, patternValue_signed_two, s16Of, u16Of]
  simp only [hsign]

/-- Settles O38: one lemma for each of the four types. -/
theorem leafValueOfBytes : Obligations.LeafValueOfBytes := fun b hi lo =>
  ⟨leafValue_u8 b, leafValue_s8 b, leafValue_u16 hi lo, leafValue_s16 hi lo⟩

/-! ## Leaves -/

section Leaves

variable {c : Config} {id : Byte} {name : String} {sg : Bool}

/-- R281: DECODE of a leaf of one byte. -/
theorem decodeResponse_leaf1 (h : packetSpec c id = some (.leaf name 1 sg)) {value : Byte → Int}
    (hvalue : ∀ b, leafValue 1 sg [b] = value b) (buf : List Byte) : decodeResponse c id buf = leaf1 id value buf := by
  rw [decodeResponse_leaf h]
  match buf with
  | [] => rfl
  | [b] => simp only [leaf1, ← hvalue]; rfl
  | _ :: _ :: _ => rfl

/-- R281: DECODE of a leaf of two bytes. -/
theorem decodeResponse_leaf2 (h : packetSpec c id = some (.leaf name 2 sg)) {value : Byte → Byte → Int}
    (hvalue : ∀ hi lo, leafValue 2 sg [hi, lo] = value hi lo) (buf : List Byte) :
    decodeResponse c id buf = leaf2 id value buf := by
  rw [decodeResponse_leaf h]
  match buf with
  | [] => rfl
  | [_] => rfl
  | [hi, lo] => simp only [leaf2, ← hvalue]; rfl
  | _ :: _ :: _ :: _ => rfl

end Leaves

section DefaultLeaves

variable {s : State} (h : DefaultPackets s.cfg) {i : Instr} {id : Byte} {buf : List Byte} {name : String}
include h

/-- A one-byte leaf of the default packets, asked for by its own row. -/
theorem answersDecode_leaf1 {sg : Bool} {value : Byte → Int} (hvalue : ∀ b, leafValue 1 sg [b] = value b)
    (hi : exec i s = exec (.decode id buf) s)
    (he : defaultPktCatalog.find? (fun e => e.id == id) = some (leafEntry id name 1 sg))
    (hid : (id == 43#8 || id == 44#8) = false) : answersDecode i s (leaf1 id value buf) :=
  hi.trans (answersDecode_of_decodeResponse (decodeResponse_leaf1 (packetSpec_default_leaf h he hid) hvalue buf))

/-- A two-byte leaf of the default packets, asked for by its own row. -/
theorem answersDecode_leaf2 {sg : Bool} {value : Byte → Byte → Int}
    (hvalue : ∀ hi lo, leafValue 2 sg [hi, lo] = value hi lo) (hi : exec i s = exec (.decode id buf) s)
    (he : defaultPktCatalog.find? (fun e => e.id == id) = some (leafEntry id name 2 sg))
    (hid : (id == 43#8 || id == 44#8) = false) : answersDecode i s (leaf2 id value buf) :=
  hi.trans (answersDecode_of_decodeResponse (decodeResponse_leaf2 (packetSpec_default_leaf h he hid) hvalue buf))

/-- R238, R239: an encoder count of the default packets has the sign of the parameter. -/
theorem answersDecode_encoder {sg : Bool} (hi : exec i s = exec (.decode id buf) s)
    (he : defaultPktCatalog.find? (fun e => e.id == id) = some (leafEntry id name 2 sg))
    (hid : (id == 43#8 || id == 44#8) = true) :
    answersDecode i s (leaf2 id (if s.cfg.signedEncoderCounts then s16Of else u16Of) buf) := by
  have hspec : packetSpec s.cfg id = some (.leaf name 2 s.cfg.signedEncoderCounts) := by
    rw [packetSpec_default h he, leafEntry, applyEncoderSign, hid]; rfl
  refine hi.trans (answersDecode_of_decodeResponse (decodeResponse_leaf2 hspec ?_ buf))
  cases s.cfg.signedEncoderCounts with
  | false => exact leafValue_u16
  | true => exact leafValue_s16

end DefaultLeaves

/-- Settles O54: each row's entry is found in the default packets. -/
theorem unsignedBytePackets : Obligations.UnsignedBytePackets := by
  intro s buf h
  repeat' apply And.intro
  all_goals exact answersDecode_leaf1 h leafValue_u8 rfl rfl rfl

/-- Settles O55: each row's entry is found in the default packets. -/
theorem unsignedWordPackets : Obligations.UnsignedWordPackets := by
  intro s buf h
  repeat' apply And.intro
  all_goals exact answersDecode_leaf2 h leafValue_u16 rfl rfl rfl

/-- Settles O56: packet 24 is one byte, the other eleven are two. -/
theorem signedPackets : Obligations.SignedPackets := by
  intro s buf h
  refine ⟨answersDecode_leaf1 h leafValue_s8 rfl rfl rfl, ?_⟩
  repeat' apply And.intro
  all_goals exact answersDecode_leaf2 h leafValue_s16 rfl rfl rfl

/-- Settles O57: the lookup gives packets 43 and 44 the sign of the parameter. -/
theorem encoderPackets : Obligations.EncoderPackets := fun _ _ h =>
  ⟨answersDecode_encoder h rfl rfl rfl, answersDecode_encoder h rfl rfl rfl⟩

/-! ## Groups, member by member -/

/-- R281: each member with the offset it stands at, when the first stands at `pos` and each is as wide as `width`
says. -/
def placed (width : Byte → Nat) : Nat → List Byte → List (Byte × Nat)
  | _, [] => []
  | pos, m :: ms => (m, pos) :: placed width (pos + width m) ms

/-- R281: the pairs of a response are the values at the members' offsets. -/
theorem memberPairs_eq_map_placed (c : Config) (buf : List Byte) (pos : Nat) (ms : List Byte) :
    memberPairs c buf pos ms
      = (placed (leafWidth c) pos ms).map fun m =>
          (m.1, leafValue (leafWidth c m.1) (leafSigned c m.1) (bytesAt buf m.2 (leafWidth c m.1))) := by
  induction ms generalizing pos with
  | nil => rfl
  | cons m ms ih => rw [memberPairs_cons, placed, List.map_cons, ih]

/-- R281: a member that is placed is one of the list, and ends where the list ends or before. -/
theorem placed_mem {c : Config} {pos : Nat} {ms : List Byte} {p : Byte × Nat} (h : p ∈ placed (leafWidth c) pos ms) :
    p.1 ∈ ms ∧ p.2 + leafWidth c p.1 ≤ pos + totalWidth c ms := by
  induction ms generalizing pos with
  | nil => cases h
  | cons m ms ih =>
    rw [totalWidth_cons]
    obtain rfl | htail := List.mem_cons.1 h
    · exact ⟨List.mem_cons_self, by simp only; omega⟩
    · obtain ⟨hmem, hend⟩ := ih htail
      exact ⟨List.mem_cons_of_mem _ hmem, by omega⟩

/-- R281: the offsets depend on the members' widths only. -/
theorem placed_congr {width width' : Byte → Nat} {ms : List Byte} (h : ∀ m ∈ ms, width m = width' m) (pos : Nat) :
    placed width pos ms = placed width' pos ms := by
  induction ms generalizing pos with
  | nil => rfl
  | cons m ms ih =>
    obtain ⟨hm, hms⟩ := List.forall_mem_cons.1 h
    rw [placed, placed, hm, ih hms]

/-- R202 to R253: the listed width of a leaf. -/
def listedWidth (id : Byte) : Nat := (listedType false id).1

/-- R238, R239: the parameter does not change a width. -/
theorem listedType_fst (encoders : Bool) (id : Byte) : (listedType encoders id).1 = listedWidth id := by
  unfold listedWidth listedType
  cases listedLeaves.find? fun l => l.1 == id <;> rfl

/-- R8: the default packets are those of the default configuration, but for the encoder sign. -/
theorem packetSpec_of_defaultPackets {c : Config} (h : DefaultPackets c) (id : Byte) :
    packetSpec c id = packetSpec { defaultConfig with signedEncoderCounts := c.signedEncoderCounts } id := by
  have hsign (spec : PacketSpec) : applyEncoderSign c id spec
      = applyEncoderSign { defaultConfig with signedEncoderCounts := c.signedEncoderCounts } id spec := by
    cases spec <;> rfl
  simp only [packetSpec, h, hsign]
  rfl

/-- R202 to R253: the default leaf entries are for the IDs 7 to 58. -/
theorem defaultLeafEntries_ids : defaultLeafEntries.map (·.id) = idRange 7 58 := by decide +kernel

/-- R202 to R253: the listed types, on the default configuration. -/
theorem listedType_default (encoders : Bool) : ∀ e ∈ defaultLeafEntries,
    listedType encoders e.id
      = (leafWidth { defaultConfig with signedEncoderCounts := encoders } e.id,
         leafSigned { defaultConfig with signedEncoderCounts := encoders } e.id) := by
  cases encoders <;> decide +kernel

/-- R202 to R253: the listed types are those of the default packets. -/
theorem listedType_eq {c : Config} (h : DefaultPackets c) {id : Byte} (hid : id ∈ idRange 7 58) :
    listedType c.signedEncoderCounts id = (leafWidth c id, leafSigned c id) := by
  rw [← defaultLeafEntries_ids] at hid
  obtain ⟨e, he, rfl⟩ := List.mem_map.1 hid
  rw [listedType_default c.signedEncoderCounts e he, leafWidth, leafWidth, leafSigned, leafSigned,
    packetSpec_of_defaultPackets h]

/-- R202 to R253: the listed widths are those of the default packets. -/
theorem leafWidth_eq_listedWidth {c : Config} (h : DefaultPackets c) {id : Byte} (hid : id ∈ idRange 7 58) :
    leafWidth c id = listedWidth id := by
  rw [← listedType_fst c.signedEncoderCounts, listedType_eq h hid]

/-- R200(a): a listed width is 1 or 2. -/
theorem listedWidth_cases {id : Byte} (hid : id ∈ idRange 7 58) : listedWidth id = 1 ∨ listedWidth id = 2 := by
  rw [← leafWidth_eq_listedWidth (c := defaultConfig) rfl hid]
  exact leafWidth_of_admitted admitted_defaultConfig hid

/-- R13, R281: the listed value is LeafValue of the bytes at the offset, when they are there. -/
theorem listedValue_eq {encoders : Bool} {id : Byte} {w : Nat} {sg : Bool} (ht : listedType encoders id = (w, sg))
    (hw : w = 1 ∨ w = 2) {buf : List Byte} {offset : Nat} (hend : offset + w ≤ buf.length) :
    listedValue encoders buf id offset = leafValue w sg (bytesAt buf offset w) := by
  obtain ⟨rest, hsplit⟩ : ∃ rest, buf.drop offset = bytesAt buf offset w ++ rest :=
    ⟨_, (List.take_append_drop w (buf.drop offset)).symm⟩
  have hlen : (bytesAt buf offset w).length = w := by
    rw [bytesAt, List.length_take, List.length_drop]; omega
  obtain ⟨rfl, b, hb⟩ | ⟨rfl, hi, lo, hb⟩ := bytes_of_width hw hlen
  · rw [hb] at hsplit ⊢
    simp only [listedValue, ht, hsplit, List.cons_append]
    cases sg with
    | false => exact (leafValue_u8 b).symm
    | true => exact (leafValue_s8 b).symm
  · rw [hb] at hsplit ⊢
    simp only [listedValue, ht, hsplit, List.cons_append]
    cases sg with
    | false => exact (leafValue_u16 hi lo).symm
    | true => exact (leafValue_s16 hi lo).symm

/-- R281, R286: the record of a group of the default packets is the listed values at the members' offsets. -/
theorem memberPairs_default {c : Config} (h : DefaultPackets c) {ms buf : List Byte} (hms : ∀ m ∈ ms, m ∈ idRange 7 58)
    (hlen : buf.length = totalWidth c ms) :
    memberPairs c buf 0 ms
      = (placed listedWidth 0 ms).map fun m => (m.1, listedValue c.signedEncoderCounts buf m.1 m.2) := by
  rw [memberPairs_eq_map_placed, ← placed_congr fun m hm => leafWidth_eq_listedWidth h (hms m hm)]
  refine List.map_congr_left fun p hp => ?_
  obtain ⟨hmem, hend⟩ := placed_mem hp
  have hid := hms p.1 hmem
  have hw : leafWidth c p.1 = 1 ∨ leafWidth c p.1 = 2 := by
    rw [leafWidth_eq_listedWidth h hid]; exact listedWidth_cases hid
  rw [listedValue_eq (listedType_eq h hid) hw (by omega)]

/-- R254 to R264: a group of the default packets answers the listed values at the offsets its members' widths give. -/
theorem answersDecode_group {s : State} (h : DefaultPackets s.cfg) {i : Instr} {id : Byte} {buf : List Byte}
    (hi : exec i s = exec (.decode id buf) s) {first last : Nat}
    (he : defaultPktCatalog.find? (fun e => e.id == id) = some (groupEntry id first last))
    (hfirst : 7 ≤ first) (hlast : last ≤ 58) {total : Nat} {offsets : List (Byte × Nat)}
    (htotal : ((idRange first last).map listedWidth).sum = total)
    (hoffsets : placed listedWidth 0 (idRange first last) = offsets) :
    answersDecode i s (groupAnswer s.cfg.signedEncoderCounts total offsets buf) := by
  have hspec := packetSpec_default_group h he
  have hms (m : Byte) (hm : m ∈ idRange first last) : m ∈ idRange 7 58 := idRange_subset hfirst hlast hm
  have hwidth : totalWidth s.cfg (idRange first last) = total := by
    rw [← htotal, totalWidth, List.map_congr_left fun m hm => leafWidth_eq_listedWidth h (hms m hm)]
  refine hi.trans (answersDecode_of_decodeResponse ?_)
  unfold groupAnswer
  split
  · next hlen =>
    rw [← hwidth] at hlen
    rw [decodeResponse_ok hspec hlen, membersOf, memberPairs_default h hms hlen, hoffsets]
  · next hlen =>
    rw [← hwidth] at hlen
    exact decodeResponse_wrongLength hspec hlen

/-- Settles O58: the listed offsets and totals are those the listed widths give. -/
theorem groupPacketsAtTheirOffsets : Obligations.GroupPacketsAtTheirOffsets := by
  intro s buf h
  repeat' apply And.intro
  all_goals exact answersDecode_group h rfl rfl (by decide) (by decide) rfl rfl

end Sys2Proof.Machine
end

section
/-! The Command Validator (41_command_validator.md R161 to R173): the result triple, unknown opcodes, the length check,
and the declared fields of an admitted catalog. -/

namespace Sys2Proof.Machine

/-! ## The result triple, unknown opcodes and wrong lengths -/

/-- Settles O33: only the last case of `validateBuffer_cases` names a field. -/
theorem validateTripleShape : Obligations.ValidateTripleShape := by
  intro buf s
  refine ⟨validateBuffer s.cfg buf, rfl, ?_⟩
  obtain ⟨-, h⟩ | ⟨op, data, rfl, ⟨-, h⟩ | ⟨spec, hspec, ⟨-, h⟩ | ⟨-, -, h⟩ | ⟨-, i, f, hi, hbad, hgood, h⟩⟩⟩ :=
    validateBuffer_cases s.cfg buf <;> rw [h]
  on_goal 5 =>
    refine ⟨by simp, by simp, by simp, fun j hj => ?_⟩
    cases hj
    exact ⟨op, spec, f, rfl, hspec, hi, hbad, hgood⟩
  all_goals exact ⟨by decide, by decide, by decide, nofun⟩

/-- Settles O34: there is no byte 0 to look up. -/
theorem emptyBufferIsUnknownOpcode : Obligations.EmptyBufferIsUnknownOpcode := fun _ =>
  answersValidate_of_validateBuffer rfl

/-- R164: an opcode with no entry is rejected whatever follows it. -/
theorem validateBuffer_unknown {c : Config} {op : Byte} (h : commandSpec c op = none) (data : List Byte) :
    validateBuffer c (op :: data) = unknownOpcode := by
  simp only [validateBuffer, h, raiseValidate, unknownOpcode]

/-- R23, R100: the lookup fails on the opcodes that are not known and on those no entry carries. -/
theorem commandSpec_eq_none_iff {c : Config} {op : Byte} :
    commandSpec c op = none ↔ op ∉ c.knownOpcodes ∨ op ∉ c.cmdCatalog.map (·.opcode) := by
  unfold commandSpec
  split
  · next hk =>
    have hmem : op ∈ c.knownOpcodes := List.contains_iff_mem.1 hk
    simp [hmem]
  · next hk =>
    have hmem : op ∉ c.knownOpcodes := fun h => hk (List.contains_iff_mem.2 h)
    simp [hmem]

/-- R8: the default catalog holds an entry for each of the default opcodes. -/
theorem defaultCmdCatalog_opcodes : defaultCmdCatalog.map (·.opcode) = defaultKnownOpcodes := by decide +kernel

/-- R78, R100: the default opcodes, as the ranges they fill. -/
theorem defaultKnownOpcodes_ranges :
    defaultKnownOpcodes
      = idRange 7 7 ++ (idRange 128 158 ++ (idRange 162 165 ++ (idRange 167 168 ++ idRange 173 173))) := by
  decide +kernel

/-- R78: the bytes outside those ranges. -/
theorem not_mem_defaultKnownOpcodes_iff {op : Byte} :
    op ∉ defaultKnownOpcodes
      ↔ op.toNat ≤ 6 ∨ (8 ≤ op.toNat ∧ op.toNat ≤ 127) ∨ (159 ≤ op.toNat ∧ op.toNat ≤ 161) ∨ op.toNat = 166
        ∨ (169 ≤ op.toNat ∧ op.toNat ≤ 172) ∨ 174 ≤ op.toNat := by
  rw [defaultKnownOpcodes_ranges]
  simp only [List.mem_append, mem_idRange_iff_le (by decide : 7 ≤ 255), mem_idRange_iff_le (by decide : 158 ≤ 255),
    mem_idRange_iff_le (by decide : 165 ≤ 255), mem_idRange_iff_le (by decide : 168 ≤ 255),
    mem_idRange_iff_le (by decide : 173 ≤ 255)]
  omega

/-- Settles O35: the opcode is looked up first, and the default entries leave those bytes out. -/
theorem unknownOpcodes : Obligations.UnknownOpcodes := by
  refine fun s op data => ⟨fun h => answersValidate_of_validateBuffer (validateBuffer_unknown h data), ?bytes⟩
  case bytes =>
    rintro ⟨hknown, hcatalog⟩
    rw [commandSpec_eq_none_iff, hknown, hcatalog, defaultCmdCatalog_opcodes, or_self, not_mem_defaultKnownOpcodes_iff]

/-- R162: a buffer that ends before its count byte has no number of data bytes. -/
theorem dataBytes_of_short {off base per : Nat} {buf : List Byte} (h : buf.length ≤ off) :
    dataBytes (.prefixed off base per) buf = none := by
  rw [dataBytes, List.getElem?_eq_none h, Option.map_none]

/-- R73: the number of data bytes the count byte asks for. -/
theorem dataBytes_of_prefix {off base per : Nat} {buf : List Byte} {l : Byte} (h : buf[off]? = some l) :
    dataBytes (.prefixed off base per) buf = some (base + per * l.toNat) := by
  rw [dataBytes, h, Option.map_some]

/-- Settles O36: in each case the length rule asks for another number of data bytes, or for none. -/
theorem wrongLengthIsRejected : Obligations.WrongLengthIsRejected := by
  intro s op data spec hspec
  have reject (h : dataBytes spec.length (op :: data) ≠ some data.length) :
      answersValidate (.validate (op :: data)) s wrongLength :=
    answersValidate_of_validateBuffer (validateBuffer_wrongLength hspec h)
  refine ⟨fun k hfixed hne => reject ?fixed, fun off base per hprefixed =>
    ⟨fun hshort => reject ?short, fun l hl hne => reject ?count⟩⟩
  case fixed => rw [hfixed, dataBytes]; exact fun h => hne (Option.some.inj h).symm
  case short => rw [hprefixed, dataBytes_of_short hshort]; nofun
  case count => rw [hprefixed, dataBytes_of_prefix hl]; exact fun h => hne (Option.some.inj h).symm

/-! ## The fields of an admitted catalog -/

/-- R140(b), (c): the bytes that fields may cover are among those the length check asks for. -/
theorem lastFieldByte_le_of_dataBytes {len : LengthRule} (hwf : lengthWf len = true) {buf : List Byte} {n : Nat}
    (h : dataBytes len buf = some n) : lastFieldByte len ≤ n := by
  cases len with
  | fixed k => exact (Option.some.inj h).le
  | prefixed off base per =>
    obtain ⟨l, -, rfl⟩ := Option.map_eq_some_iff.1 h
    simp only [lengthWf, Bool.and_eq_true, decide_eq_true_eq] at hwf
    exact hwf.2.trans (Nat.le_add_right _ _)

/-- R140: what the check asks of the fields of an entry. -/
theorem commandSpecWf_iff {spec : CommandSpec} :
    commandSpecWf spec = true ↔ lengthWf spec.length = true ∧ (∀ f ∈ spec.fields, fieldWf spec.length f = true)
      ∧ fieldsDisjoint spec.fields = true := by
  simp only [commandSpecWf, Bool.and_eq_true, List.all_eq_true, and_assoc]

/-- R140(b), (c), (d): what the check asks of one field. -/
theorem fieldWf_iff {len : LengthRule} {f : Field} :
    fieldWf len f = true ↔ 1 ≤ f.byteOffset ∧ f.byteOffset + f.byteWidth ≤ lastFieldByte len + 1
      ∧ (f.byteWidth = 1 ∨ f.byteWidth = 2) ∧ f.min ≤ f.max := by
  simp only [fieldWf, Bool.and_eq_true, Bool.or_eq_true, beq_iff_eq, decide_eq_true_eq, and_assoc]

/-- Settles O40: the last byte a field may cover is in the buffer, and the members' widths add up to its length. -/
theorem fieldReadsStayInTheBuffer : Obligations.FieldReadsStayInTheBuffer := by
  refine fun c ha => ⟨fun op data spec hspec hlen f hf => ?field, fun id spec buf hspec hlen k m hk => ?member⟩
  case field =>
    obtain ⟨hlength, hfields, -⟩ := commandSpecWf_iff.1 (commandSpecWf_of_admitted ha hspec)
    obtain ⟨hoffset, hend, -⟩ := fieldWf_iff.1 (hfields f hf)
    have hlast := lastFieldByte_le_of_dataBytes hlength hlen
    exact ⟨hoffset, by rw [List.length_cons]; omega⟩
  case member =>
    have hsucc := totalWidth_take_succ c hk
    have htotal : totalWidth c ((membersOf id spec).take (k + 1)) + totalWidth c ((membersOf id spec).drop (k + 1))
        = buf.length := by
      rw [← totalWidth_append, List.take_append_drop, hlen]
    refine ⟨by omega, fun hlast => ?_, member_of_admitted ha hspec (List.mem_of_getElem? hk)⟩
    rw [← hsucc, hlast, List.take_length, hlen]

/-! ## Perturbing one field (R173) -/

/-- R72: a field's value depends on the bytes it covers only. -/
theorem fieldValue_congr {g : Field} {buf buf' : List Byte} (h : ∀ k, Covers g k → buf'[k]? = buf[k]?) :
    fieldValue g buf' = fieldValue g buf := by
  have hbytes : bytesAt buf' g.byteOffset g.byteWidth = bytesAt buf g.byteOffset g.byteWidth := by
    refine List.ext_getElem? fun k => ?_
    simp only [bytesAt, List.getElem?_take, List.getElem?_drop]
    split
    · next hk => exact h _ ⟨Nat.le_add_right _ _, Nat.add_lt_add_left hk _⟩
    · rfl
  rw [fieldValue_eq, fieldValue_eq, hbytes]

/-- R140(e): no byte of one declared field belongs to another. -/
theorem not_covers_both {c : Config} (ha : admitted c = true) {op : Byte} {spec : CommandSpec}
    (hspec : commandSpec c op = some spec) {i j : Nat} (hij : i ≠ j) {f g : Field} (hi : spec.fields[i]? = some f)
    (hj : spec.fields[j]? = some g) (k : Nat) : ¬(Covers f k ∧ Covers g k) := by
  obtain ⟨e, he, -, rfl⟩ := commandSpec_entry hspec
  exact (commandsWellFormed_of_admitted ha).apart e he i j f g hij hi hj k

/-- R166: with every other field in its domain, the field `f` decides: in its domain the command is accepted. -/
theorem validateBuffer_accepted_of_others {c : Config} {op : Byte} {data : List Byte} {spec : CommandSpec} {i : Nat}
    {f : Field} (hspec : commandSpec c op = some spec) (hi : spec.fields[i]? = some f)
    (hlen : dataBytes spec.length (op :: data) = some data.length)
    (hothers : ∀ j g, j ≠ i → spec.fields[j]? = some g → inDomain g (fieldValue g (op :: data)) = true)
    (hf : inDomain f (fieldValue f (op :: data)) = true) : validateBuffer c (op :: data) = accepted := by
  refine validateBuffer_eq_accepted hspec hlen fun g hg => ?_
  obtain ⟨j, hj⟩ := List.getElem?_of_mem hg
  by_cases hji : j = i
  · subst hji
    rw [hi] at hj
    cases hj
    exact hf
  · exact hothers j g hji hj

/-- R173: a value in the domain of field `i` is accepted, and a value outside it that is written to the field's own
bytes is rejected by the field's index. -/
theorem perturbation {s : State} {op : Byte} {data data' : List Byte} {spec : CommandSpec} {i : Nat} {f : Field}
    (ha : admitted s.cfg = true) (hspec : commandSpec s.cfg op = some spec) (hi : spec.fields[i]? = some f)
    (hlen : dataBytes spec.length (op :: data) = some data.length)
    (hlen' : dataBytes spec.length (op :: data') = some data'.length)
    (hsame : ∀ k, ¬Covers f k → (op :: data')[k]? = (op :: data)[k]?)
    (hothers : ∀ j g, j ≠ i → spec.fields[j]? = some g → inDomain g (fieldValue g (op :: data)) = true)
    (hgood : inDomain f (fieldValue f (op :: data)) = true)
    (hbad : inDomain f (fieldValue f (op :: data')) = false) :
    answersValidate (.validate (op :: data)) s accepted
      ∧ answersValidate (.validate (op :: data')) s (outOfRange i) := by
  have hothers' : ∀ j g, j < i → spec.fields[j]? = some g → inDomain g (fieldValue g (op :: data')) = true := by
    intro j g hji hj
    have hvalue : fieldValue g (op :: data') = fieldValue g (op :: data) :=
      fieldValue_congr fun k hk => hsame k fun hfk => not_covers_both ha hspec hji.ne' hi hj k ⟨hfk, hk⟩
    rw [hvalue]
    exact hothers j g hji.ne hj
  exact ⟨answersValidate_of_validateBuffer (validateBuffer_accepted_of_others hspec hi hlen hothers hgood),
    answersValidate_of_validateBuffer (validateBuffer_eq_outOfRange hspec hlen' hi hbad hothers')⟩

/-- R166: a value outside `[min, max]` that is no sentinel is outside the domain. -/
theorem inDomain_eq_false {f : Field} {v : Int} (hrange : ¬(f.min ≤ v ∧ v ≤ f.max)) (hsentinel : v ∉ f.sentinels) :
    inDomain f v = false := by
  rw [← Bool.not_eq_true, inDomain_iff, not_or]
  exact ⟨hrange, hsentinel⟩

/-- Settles O39: `perturbation` at the max and at the min, which are in the domain since min is at most max. -/
theorem perturbationLaw : Obligations.PerturbationLaw := by
  intro s op data data' spec i f ha hspec hi hlen hlen' _ hsame hothers
  obtain ⟨-, hfields, -⟩ := commandSpecWf_iff.1 (commandSpecWf_of_admitted ha hspec)
  obtain ⟨-, -, -, hminmax⟩ := fieldWf_iff.1 (hfields f (List.mem_of_getElem? hi))
  have answers := perturbation ha hspec hi hlen hlen' hsame hothers
  refine ⟨fun hmax hover hsentinel => answers ?_ ?_, fun hmin hunder hsentinel => answers ?_ ?_⟩
  · rw [hmax, inDomain_iff]; exact .inl ⟨hminmax, le_refl _⟩
  · rw [hover]; exact inDomain_eq_false (by omega) hsentinel
  · rw [hmin, inDomain_iff]; exact .inl ⟨le_refl _, hminmax⟩
  · rw [hunder]; exact inDomain_eq_false (by omega) hsentinel

end Sys2Proof.Machine
end

section
/-! The commands of the default catalog (40_command_catalog.md R101 to R142), under either domain profile. -/

namespace Sys2Proof.Machine

/-! ## The verdict of a list of fields -/

/-- R166: whether a declared field's value is in its domain. -/
def verdict (buf : List Byte) (f : Field) : Bool := inDomain f (fieldValue f buf)

/-- R161: the first failing field is the first bad verdict. -/
theorem firstFailing_eq_firstBad (buf : List Byte) (i : Nat) (fs : List Field) :
    (firstFailing buf i fs).elim accepted outOfRange = firstBad i (fs.map (verdict buf)) := by
  induction fs generalizing i with
  | nil => rfl
  | cons f fs ih =>
    rw [List.map_cons, firstBad, firstFailing, verdict, ← ih, apply_ite (Option.elim · accepted outOfRange)]
    rfl

section Verdicts

variable {op : Byte} {data : List Byte} {k : Nat} {lo hi : Int}

/-- The bytes of a one-byte field, by data byte. -/
theorem bytesAt_one (h : k < data.length) : bytesAt (op :: data) (k + 1) 1 = [data.getD k 0#8] := by
  rw [bytesAt, List.drop_succ_cons, List.drop_eq_getElem_cons h, List.take_succ_cons, List.take_zero,
    List.getD_eq_getElem _ _ h]

/-- The bytes of a two-byte field, by data byte. -/
theorem bytesAt_two (h : k + 1 < data.length) :
    bytesAt (op :: data) (k + 1) 2 = [data.getD k 0#8, data.getD (k + 1) 0#8] := by
  rw [bytesAt, List.drop_succ_cons, List.drop_eq_getElem_cons (Nat.lt_of_succ_lt h), List.drop_eq_getElem_cons h,
    List.take_succ_cons, List.take_succ_cons, List.take_zero, List.getD_eq_getElem _ _ (Nat.lt_of_succ_lt h),
    List.getD_eq_getElem _ _ h]

/-- R142: an unsigned byte. -/
theorem verdict_u8 (h : k < data.length) : verdict (op :: data) (u8 (k + 1) lo hi) = u8In data k lo hi := by
  have hvalue : fieldValue (u8 (k + 1) lo hi) (op :: data) = u8Of (data.getD k 0#8) := by
    rw [fieldValue_eq, u8, bytesAt_one h, leafValue_u8]
  rw [verdict, hvalue, inDomain, u8In]
  exact Bool.or_false _

/-- R142: a signed byte. -/
theorem verdict_s8 (h : k < data.length) : verdict (op :: data) (s8 (k + 1) lo hi) = s8In data k lo hi := by
  have hvalue : fieldValue (s8 (k + 1) lo hi) (op :: data) = s8Of (data.getD k 0#8) := by
    rw [fieldValue_eq, s8, bytesAt_one h, leafValue_s8]
  rw [verdict, hvalue, inDomain, s8In]
  exact Bool.or_false _

/-- R72: the value of a signed word. -/
theorem fieldValue_s16 (h : k + 1 < data.length) : fieldValue (s16 (k + 1) lo hi) (op :: data) = s16At data k := by
  rw [fieldValue_eq, s16, bytesAt_two h, leafValue_s16, s16At]

/-- R142: a signed word. -/
theorem verdict_s16 (h : k + 1 < data.length) : verdict (op :: data) (s16 (k + 1) lo hi) = s16In data k lo hi := by
  rw [verdict, fieldValue_s16 h, inDomain, s16In]
  exact Bool.or_false _

/-- R111: a signed word with two sentinels. -/
theorem verdict_s16_sentinels (h : k + 1 < data.length) (x y : Int) :
    verdict (op :: data) (withSentinels [x, y] (s16 (k + 1) lo hi))
      = (s16In data k lo hi || s16At data k == x || s16At data k == y) := by
  have hvalue : fieldValue (withSentinels [x, y] (s16 (k + 1) lo hi)) (op :: data) = s16At data k :=
    fieldValue_s16 (lo := lo) (hi := hi) h
  rw [verdict, hvalue, inDomain, s16In, Bool.or_assoc]
  simp only [withSentinels, s16, List.contains_cons, List.contains_nil, Bool.or_false]
  rfl

end Verdicts

/-! ## The entries -/

section Entries

variable {c : Config} {op : Byte} {spec : CommandSpec}

/-- R161: with no declared field the length decides. -/
theorem validateBuffer_noFields (h : commandSpec c op = some spec) (hfields : spec.fields = []) (data : List Byte) :
    validateBuffer c (op :: data) = byLength (dataBytes spec.length (op :: data) = some data.length) := by
  unfold byLength
  split
  · next hlen => exact validateBuffer_eq_accepted h hlen (by simp [hfields])
  · next hlen => exact validateBuffer_wrongLength h hlen

/-- R161: a command of fixed length. -/
theorem validateBuffer_fixed (h : commandSpec c op = some spec) {n : Nat} (hlength : spec.length = .fixed n)
    {data : List Byte} {good : List Bool}
    (hgood : data.length = n → spec.fields.map (verdict (op :: data)) = good) :
    validateBuffer c (op :: data) = byFields n data good := by
  unfold byFields
  split
  · next hlen =>
    rw [validateBuffer_fields h (by rw [hlength, dataBytes, hlen]), ← hgood hlen, ← firstFailing_eq_firstBad]
    cases firstFailing (op :: data) 0 spec.fields <;> rfl
  · next hlen =>
    refine validateBuffer_wrongLength h ?_
    rw [hlength, dataBytes]
    exact fun e => hlen (Option.some.inj e).symm

/-- The verdict of the length, however it is stated. -/
theorem byLength_congr {p q : Prop} [Decidable p] [Decidable q] (h : p ↔ q) : byLength p = byLength q := by
  simp only [byLength, h]

/-- R73: the number of data bytes that data byte `off` asks for. -/
theorem dataBytes_prefixed_eq_iff {off base per : Nat} {data : List Byte} :
    dataBytes (.prefixed (off + 1) base per) (op :: data) = some data.length
      ↔ ∃ l : Byte, data[off]? = some l ∧ data.length = base + per * l.toNat := by
  rw [dataBytes, List.getElem?_cons_succ, Option.map_eq_some_iff]
  exact exists_congr fun l => and_congr_right fun _ => eq_comm

end Entries

section DefaultCommands

variable {s : State} (h : DefaultCommands s.cfg) {i : Instr} {op : Byte} {data : List Byte} {mnemonic : String}
include h

/-- R141: a command of the default catalog of fixed length, with fields under EXTENDED only. -/
theorem answersValidate_extended {n : Nat} {fields : List Field} {good : List Bool}
    (hi : exec i s = exec (.validate (op :: data)) s) (hk : defaultKnownOpcodes.contains op = true)
    (he : defaultCmdCatalog.find? (fun e => e.opcode == op) = some (extendedEntry op mnemonic (.fixed n) fields))
    (hgood : data.length = n → fields.map (verdict (op :: data)) = good) :
    answersValidate i s (byProfile s.cfg.domainProfile n data good) := by
  refine hi.trans (answersValidate_of_validateBuffer ?_)
  have hspec := commandSpec_default h hk he
  cases hp : s.cfg.domainProfile with
  | source =>
    rw [hp] at hspec
    exact validateBuffer_fixed hspec (n := n) (good := []) rfl fun _ => rfl
  | extended =>
    rw [hp] at hspec
    exact validateBuffer_fixed hspec rfl hgood

/-- A command of the default catalog with no field under either profile. -/
theorem answersValidate_plain {len : LengthRule} (hi : exec i s = exec (.validate (op :: data)) s)
    (hk : defaultKnownOpcodes.contains op = true)
    (he : defaultCmdCatalog.find? (fun e => e.opcode == op) = some (plainEntry op mnemonic len))
    {fits : Prop} [Decidable fits] (hfits : dataBytes len (op :: data) = some data.length ↔ fits) :
    answersValidate i s (byLength fits) := by
  have hspec := commandSpec_default h hk he
  have hfields : (specUnder s.cfg.domainProfile (plainEntry op mnemonic len)).fields = [] := by
    cases s.cfg.domainProfile <;> rfl
  have hresult := validateBuffer_noFields hspec hfields data
  rw [specUnder_length] at hresult
  exact hi.trans (answersValidate_of_validateBuffer (hresult.trans (byLength_congr hfits)))

/-- A command of the default catalog of fixed length with no field under either profile. -/
theorem answersValidate_fixed {n : Nat} (hi : exec i s = exec (.validate (op :: data)) s)
    (hk : defaultKnownOpcodes.contains op = true)
    (he : defaultCmdCatalog.find? (fun e => e.opcode == op) = some (plainEntry op mnemonic (.fixed n))) :
    answersValidate i s (byLength (data.length = n)) :=
  answersValidate_plain h hi hk he (by rw [dataBytes, Option.some.injEq]; exact eq_comm)

/-- A command of the default catalog whose length is given by data byte `off`. -/
theorem answersValidate_prefixed {off base per : Nat} (hi : exec i s = exec (.validate (op :: data)) s)
    (hk : defaultKnownOpcodes.contains op = true)
    (he : defaultCmdCatalog.find? (fun e => e.opcode == op)
      = some (plainEntry op mnemonic (.prefixed (off + 1) base per))) :
    answersValidate i s (byLength (∃ l : Byte, data[off]? = some l ∧ data.length = base + per * l.toNat)) :=
  answersValidate_plain h hi hk he dataBytes_prefixed_eq_iff

end DefaultCommands

/-- Settles O41: each row's entry is found in the default catalog. -/
theorem commandsWithoutDataBytes : Obligations.CommandsWithoutDataBytes := by
  intro s data h
  repeat' apply And.intro
  all_goals exact answersValidate_fixed h rfl rfl rfl

/-- Settles O42: each row's entry is found in the default catalog. -/
theorem commandsCheckedByLengthAlone : Obligations.CommandsCheckedByLengthAlone := by
  intro s data h
  repeat' apply And.intro
  all_goals exact answersValidate_fixed h rfl rfl rfl

/-- Settles O43: SONG counts by data byte 1, the other three by data byte 0. -/
theorem variableLengthCommands : Obligations.VariableLengthCommands := by
  intro s data h
  have onePerByte (i : Instr)
      (hi : answersValidate i s (byLength (∃ l : Byte, data[0]? = some l ∧ data.length = 1 + 1 * l.toNat))) :
      answersValidate i s (byLength (∃ l : Byte, data[0]? = some l ∧ data.length = 1 + l.toNat)) := by
    simpa only [Nat.one_mul] using hi
  exact ⟨answersValidate_prefixed h rfl rfl rfl, onePerByte _ (answersValidate_prefixed h rfl rfl rfl),
    onePerByte _ (answersValidate_prefixed h rfl rfl rfl), onePerByte _ (answersValidate_prefixed h rfl rfl rfl)⟩

/-- Settles O44: DRIVE declares its two fields under either profile. -/
theorem driveCommand : Obligations.DriveCommand := by
  intro s data h
  have hspec : commandSpec s.cfg 137#8 = some (specUnder s.cfg.domainProfile entryDrive) :=
    commandSpec_default h rfl rfl
  have hfields : (specUnder s.cfg.domainProfile entryDrive).fields
      = [s16 1 (-500) 500, withSentinels [32767, -32768] (s16 3 (-2000) 2000)] := by
    cases s.cfg.domainProfile <;> rfl
  refine answersValidate_of_validateBuffer (validateBuffer_fixed hspec (specUnder_length ..) fun hlen => ?_)
  rw [hfields, List.map_cons, List.map_cons, List.map_nil, verdict_s16 (by omega), verdict_s16_sentinels (by omega)]

/-- Settles O45: one unsigned byte each. -/
theorem oneByteCommandsWithDomains : Obligations.OneByteCommandsWithDomains := by
  intro s data h
  refine ⟨answersValidate_extended h rfl rfl rfl fun hlen => ?_, answersValidate_extended h rfl rfl rfl fun hlen => ?_⟩
  all_goals simp [verdict_u8, hlen]

/-- Settles O46: the fields of R118 to R120. -/
theorem motorCommandsWithDomains : Obligations.MotorCommandsWithDomains := by
  intro s data h
  refine ⟨answersValidate_extended h rfl rfl rfl fun hlen => ?_, answersValidate_extended h rfl rfl rfl fun hlen => ?_,
    answersValidate_extended h rfl rfl rfl fun hlen => ?_⟩
  all_goals simp [verdict_u8, verdict_s8, verdict_s16, hlen]

/-- Settles O47: four unsigned bytes each. -/
theorem digitLedCommands : Obligations.DigitLedCommands := by
  intro s data h
  refine ⟨answersValidate_extended h rfl rfl rfl fun hlen => ?_, answersValidate_extended h rfl rfl rfl fun hlen => ?_⟩
  all_goals simp [verdict_u8, hlen]

/-- Settles O48: fifteen and three unsigned bytes. -/
theorem scheduleCommands : Obligations.ScheduleCommands := by
  intro s data h
  refine ⟨answersValidate_extended h rfl rfl rfl fun hlen => ?_, answersValidate_extended h rfl rfl rfl fun hlen => ?_⟩
  all_goals simp [verdict_u8, hlen]

end Sys2Proof.Machine
end
